-- ==== Sys2Proof/Word.lean ====
section
/-! DEFINITION. The machine's word types (00_scope.md R7): bytes, 16-bit words, and the colour word the
renderer sink takes. -/

namespace Sys2Proof

/-- An 8-bit value: a general register, a memory byte, an opcode byte (R7). -/
abbrev Byte := BitVec 8

/-- A 16-bit value: a register pair, SP, PC, an address (R7). -/
abbrev Word := BitVec 16

/-- The RGBA value the renderer sink receives (60_exceptions.md R466). The spec fixes no width for it:
four bytes, one a channel, are the model's reading (log 4). -/
abbrev Rgba := BitVec 32

end Sys2Proof
end

