-- ==== Sys2Proof/Syntax.lean ====
section
/-! DEFINITION. The instruction set as syntax: one constructor of `Instr` for each row of spec/opcode_table.json, with
the immediate bytes the row's format gives it (30_encoding.md R133), and `Instr.shape`, the operand fields each row's
opcode holds (R132, R136 to R139).

A constructor is its row's mnemonic in lower case, with `at_` before an operand that the assembler syntax (R149) writes
in parentheses, and `hli` / `hld` for `HL+` / `HL-`. -/

namespace Sys2Proof

/-- The 8-bit register operands: the values 0..5 and 7 of a 3-bit register field (R136). Value 6, the byte at HL, has
its own instruction rules and so its own shapes below. -/
inductive R8 where
  | b | c | d | e | h | l | a
deriving DecidableEq, Repr

/-- The register pair `rr` (R137). -/
inductive Pair where
  | bc | de | hl | sp
deriving DecidableEq, Repr

/-- The register pair `qq` of PUSH and POP (R137). -/
inductive StackPair where
  | bc | de | hl | af
deriving DecidableEq, Repr

/-- The two pairs the indirect accumulator loads and stores address with (41_load8.md R205 to R208). -/
inductive IndirectPair where
  | bc | de
deriving DecidableEq, Repr

/-- The condition field (R138). -/
inductive Cond where
  | nz | z | nc | c
deriving DecidableEq, Repr

/-- The ALU operation field `o` (R139). -/
inductive AluOp where
  | add | adc | sub | sbc | and | xor | or | cp
deriving DecidableEq, Repr

/-- The unprefixed accumulator rotates (45_rotate_shift_bit.md R300 to R303). -/
inductive RotateOp where
  | rlc | rrc | rl | rr
deriving DecidableEq, Repr

/-- The CB shift functions (45_rotate_shift_bit.md R304). -/
inductive ShiftOp where
  | rlc | rrc | rl | rr | sla | sra | swap | srl
deriving DecidableEq, Repr

/-- One constructor for each row of spec/opcode_table.json, those with an immediate first (the compiler
limits how late a constructor with fields may stand), then the rest in the table's order. `n` is an 8-bit immediate, `e` an
8-bit displacement, `nn` a 16-bit immediate (R133). -/
inductive Instr where
  | ld_bc_nn (nn : Word)
  | ld_b_n (n : Byte)
  | ld_at_nn_sp (nn : Word)
  | ld_c_n (n : Byte)
  | stop (n : Byte)
  | ld_de_nn (nn : Word)
  | ld_d_n (n : Byte)
  | jr_e (e : Byte)
  | ld_e_n (n : Byte)
  | jr_nz_e (e : Byte)
  | ld_hl_nn (nn : Word)
  | ld_h_n (n : Byte)
  | jr_z_e (e : Byte)
  | ld_l_n (n : Byte)
  | jr_nc_e (e : Byte)
  | ld_sp_nn (nn : Word)
  | ld_at_hl_n (n : Byte)
  | jr_c_e (e : Byte)
  | ld_a_n (n : Byte)
  | jp_nz_nn (nn : Word)
  | jp_nn (nn : Word)
  | call_nz_nn (nn : Word)
  | add_a_n (n : Byte)
  | jp_z_nn (nn : Word)
  | call_z_nn (nn : Word)
  | call_nn (nn : Word)
  | adc_a_n (n : Byte)
  | jp_nc_nn (nn : Word)
  | call_nc_nn (nn : Word)
  | sub_n (n : Byte)
  | jp_c_nn (nn : Word)
  | call_c_nn (nn : Word)
  | sbc_a_n (n : Byte)
  | ldh_at_n_a (n : Byte)
  | and_n (n : Byte)
  | add_sp_e (e : Byte)
  | ld_at_nn_a (nn : Word)
  | xor_n (n : Byte)
  | ldh_a_at_n (n : Byte)
  | or_n (n : Byte)
  | ld_hl_sp_e (e : Byte)
  | ld_a_at_nn (nn : Word)
  | cp_n (n : Byte)
  | nop
  | ld_at_bc_a
  | inc_bc
  | inc_b
  | dec_b
  | rlca
  | add_hl_bc
  | ld_a_at_bc
  | dec_bc
  | inc_c
  | dec_c
  | rrca
  | ld_at_de_a
  | inc_de
  | inc_d
  | dec_d
  | rla
  | add_hl_de
  | ld_a_at_de
  | dec_de
  | inc_e
  | dec_e
  | rra
  | ld_at_hli_a
  | inc_hl
  | inc_h
  | dec_h
  | daa
  | add_hl_hl
  | ld_a_at_hli
  | dec_hl
  | inc_l
  | dec_l
  | cpl
  | ld_at_hld_a
  | inc_sp
  | inc_at_hl
  | dec_at_hl
  | scf
  | add_hl_sp
  | ld_a_at_hld
  | dec_sp
  | inc_a
  | dec_a
  | ccf
  | ld_b_b
  | ld_b_c
  | ld_b_d
  | ld_b_e
  | ld_b_h
  | ld_b_l
  | ld_b_at_hl
  | ld_b_a
  | ld_c_b
  | ld_c_c
  | ld_c_d
  | ld_c_e
  | ld_c_h
  | ld_c_l
  | ld_c_at_hl
  | ld_c_a
  | ld_d_b
  | ld_d_c
  | ld_d_d
  | ld_d_e
  | ld_d_h
  | ld_d_l
  | ld_d_at_hl
  | ld_d_a
  | ld_e_b
  | ld_e_c
  | ld_e_d
  | ld_e_e
  | ld_e_h
  | ld_e_l
  | ld_e_at_hl
  | ld_e_a
  | ld_h_b
  | ld_h_c
  | ld_h_d
  | ld_h_e
  | ld_h_h
  | ld_h_l
  | ld_h_at_hl
  | ld_h_a
  | ld_l_b
  | ld_l_c
  | ld_l_d
  | ld_l_e
  | ld_l_h
  | ld_l_l
  | ld_l_at_hl
  | ld_l_a
  | ld_at_hl_b
  | ld_at_hl_c
  | ld_at_hl_d
  | ld_at_hl_e
  | ld_at_hl_h
  | ld_at_hl_l
  | halt
  | ld_at_hl_a
  | ld_a_b
  | ld_a_c
  | ld_a_d
  | ld_a_e
  | ld_a_h
  | ld_a_l
  | ld_a_at_hl
  | ld_a_a
  | add_a_b
  | add_a_c
  | add_a_d
  | add_a_e
  | add_a_h
  | add_a_l
  | add_a_at_hl
  | add_a_a
  | adc_a_b
  | adc_a_c
  | adc_a_d
  | adc_a_e
  | adc_a_h
  | adc_a_l
  | adc_a_at_hl
  | adc_a_a
  | sub_b
  | sub_c
  | sub_d
  | sub_e
  | sub_h
  | sub_l
  | sub_at_hl
  | sub_a
  | sbc_a_b
  | sbc_a_c
  | sbc_a_d
  | sbc_a_e
  | sbc_a_h
  | sbc_a_l
  | sbc_a_at_hl
  | sbc_a_a
  | and_b
  | and_c
  | and_d
  | and_e
  | and_h
  | and_l
  | and_at_hl
  | and_a
  | xor_b
  | xor_c
  | xor_d
  | xor_e
  | xor_h
  | xor_l
  | xor_at_hl
  | xor_a
  | or_b
  | or_c
  | or_d
  | or_e
  | or_h
  | or_l
  | or_at_hl
  | or_a
  | cp_b
  | cp_c
  | cp_d
  | cp_e
  | cp_h
  | cp_l
  | cp_at_hl
  | cp_a
  | ret_nz
  | pop_bc
  | push_bc
  | rst_00
  | ret_z
  | ret
  | rst_08
  | ret_nc
  | pop_de
  | illegal_d3
  | push_de
  | rst_10
  | ret_c
  | reti
  | illegal_db
  | illegal_dd
  | rst_18
  | pop_hl
  | ld_at_c_a
  | illegal_e3
  | illegal_e4
  | push_hl
  | rst_20
  | jp_at_hl
  | illegal_eb
  | illegal_ec
  | illegal_ed
  | rst_28
  | pop_af
  | ld_a_at_c
  | di
  | illegal_f4
  | push_af
  | rst_30
  | ld_sp_hl
  | ei
  | illegal_fc
  | illegal_fd
  | rst_38
  | rlc_b
  | rlc_c
  | rlc_d
  | rlc_e
  | rlc_h
  | rlc_l
  | rlc_at_hl
  | rlc_a
  | rrc_b
  | rrc_c
  | rrc_d
  | rrc_e
  | rrc_h
  | rrc_l
  | rrc_at_hl
  | rrc_a
  | rl_b
  | rl_c
  | rl_d
  | rl_e
  | rl_h
  | rl_l
  | rl_at_hl
  | rl_a
  | rr_b
  | rr_c
  | rr_d
  | rr_e
  | rr_h
  | rr_l
  | rr_at_hl
  | rr_a
  | sla_b
  | sla_c
  | sla_d
  | sla_e
  | sla_h
  | sla_l
  | sla_at_hl
  | sla_a
  | sra_b
  | sra_c
  | sra_d
  | sra_e
  | sra_h
  | sra_l
  | sra_at_hl
  | sra_a
  | swap_b
  | swap_c
  | swap_d
  | swap_e
  | swap_h
  | swap_l
  | swap_at_hl
  | swap_a
  | srl_b
  | srl_c
  | srl_d
  | srl_e
  | srl_h
  | srl_l
  | srl_at_hl
  | srl_a
  | bit_0_b
  | bit_0_c
  | bit_0_d
  | bit_0_e
  | bit_0_h
  | bit_0_l
  | bit_0_at_hl
  | bit_0_a
  | bit_1_b
  | bit_1_c
  | bit_1_d
  | bit_1_e
  | bit_1_h
  | bit_1_l
  | bit_1_at_hl
  | bit_1_a
  | bit_2_b
  | bit_2_c
  | bit_2_d
  | bit_2_e
  | bit_2_h
  | bit_2_l
  | bit_2_at_hl
  | bit_2_a
  | bit_3_b
  | bit_3_c
  | bit_3_d
  | bit_3_e
  | bit_3_h
  | bit_3_l
  | bit_3_at_hl
  | bit_3_a
  | bit_4_b
  | bit_4_c
  | bit_4_d
  | bit_4_e
  | bit_4_h
  | bit_4_l
  | bit_4_at_hl
  | bit_4_a
  | bit_5_b
  | bit_5_c
  | bit_5_d
  | bit_5_e
  | bit_5_h
  | bit_5_l
  | bit_5_at_hl
  | bit_5_a
  | bit_6_b
  | bit_6_c
  | bit_6_d
  | bit_6_e
  | bit_6_h
  | bit_6_l
  | bit_6_at_hl
  | bit_6_a
  | bit_7_b
  | bit_7_c
  | bit_7_d
  | bit_7_e
  | bit_7_h
  | bit_7_l
  | bit_7_at_hl
  | bit_7_a
  | res_0_b
  | res_0_c
  | res_0_d
  | res_0_e
  | res_0_h
  | res_0_l
  | res_0_at_hl
  | res_0_a
  | res_1_b
  | res_1_c
  | res_1_d
  | res_1_e
  | res_1_h
  | res_1_l
  | res_1_at_hl
  | res_1_a
  | res_2_b
  | res_2_c
  | res_2_d
  | res_2_e
  | res_2_h
  | res_2_l
  | res_2_at_hl
  | res_2_a
  | res_3_b
  | res_3_c
  | res_3_d
  | res_3_e
  | res_3_h
  | res_3_l
  | res_3_at_hl
  | res_3_a
  | res_4_b
  | res_4_c
  | res_4_d
  | res_4_e
  | res_4_h
  | res_4_l
  | res_4_at_hl
  | res_4_a
  | res_5_b
  | res_5_c
  | res_5_d
  | res_5_e
  | res_5_h
  | res_5_l
  | res_5_at_hl
  | res_5_a
  | res_6_b
  | res_6_c
  | res_6_d
  | res_6_e
  | res_6_h
  | res_6_l
  | res_6_at_hl
  | res_6_a
  | res_7_b
  | res_7_c
  | res_7_d
  | res_7_e
  | res_7_h
  | res_7_l
  | res_7_at_hl
  | res_7_a
  | set_0_b
  | set_0_c
  | set_0_d
  | set_0_e
  | set_0_h
  | set_0_l
  | set_0_at_hl
  | set_0_a
  | set_1_b
  | set_1_c
  | set_1_d
  | set_1_e
  | set_1_h
  | set_1_l
  | set_1_at_hl
  | set_1_a
  | set_2_b
  | set_2_c
  | set_2_d
  | set_2_e
  | set_2_h
  | set_2_l
  | set_2_at_hl
  | set_2_a
  | set_3_b
  | set_3_c
  | set_3_d
  | set_3_e
  | set_3_h
  | set_3_l
  | set_3_at_hl
  | set_3_a
  | set_4_b
  | set_4_c
  | set_4_d
  | set_4_e
  | set_4_h
  | set_4_l
  | set_4_at_hl
  | set_4_a
  | set_5_b
  | set_5_c
  | set_5_d
  | set_5_e
  | set_5_h
  | set_5_l
  | set_5_at_hl
  | set_5_a
  | set_6_b
  | set_6_c
  | set_6_d
  | set_6_e
  | set_6_h
  | set_6_l
  | set_6_at_hl
  | set_6_a
  | set_7_b
  | set_7_c
  | set_7_d
  | set_7_e
  | set_7_h
  | set_7_l
  | set_7_at_hl
  | set_7_a
deriving DecidableEq, Repr

/-- The shapes of instruction: one for each instruction rule of 41_load8.md to 47_cpu_control.md (or one for the rules
that differ in an operation field only), with the operand fields the opcode holds and the immediate it is followed by. -/
inductive Shape where
  /-- R350. -/
  | nop
  /-- R351. -/
  | halt
  /-- R352: `n` is the byte fetched and ignored. -/
  | stop (n : Byte)
  /-- R353. -/
  | di
  /-- R354. -/
  | ei
  /-- R355, for the opcode byte `op` of 30_encoding.md R145. -/
  | illegal (op : Byte)
  /-- R200. -/
  | ldRR (dst src : R8)
  /-- R201. -/
  | ldRN (dst : R8) (n : Byte)
  /-- R202. -/
  | ldRAtHL (dst : R8)
  /-- R203. -/
  | ldAtHLR (src : R8)
  /-- R204. -/
  | ldAtHLN (n : Byte)
  /-- R205, R206. -/
  | ldAAtPair (p : IndirectPair)
  /-- R207, R208. -/
  | ldAtPairA (p : IndirectPair)
  /-- R209. -/
  | ldAAtNn (nn : Word)
  /-- R210. -/
  | ldAtNnA (nn : Word)
  /-- R211. -/
  | ldhAAtN (n : Byte)
  /-- R212. -/
  | ldhAtNA (n : Byte)
  /-- R213. -/
  | ldAAtC
  /-- R214. -/
  | ldAtCA
  /-- R215. -/
  | ldAtHliA
  /-- R216. -/
  | ldAAtHli
  /-- R217. -/
  | ldAtHldA
  /-- R218. -/
  | ldAAtHld
  /-- R230. -/
  | ldPairNn (rr : Pair) (nn : Word)
  /-- R231. -/
  | ldNnSp (nn : Word)
  /-- R232. -/
  | ldSpHl
  /-- R233. -/
  | push (qq : StackPair)
  /-- R234. -/
  | pop (qq : StackPair)
  /-- R235. -/
  | ldHlSpE (e : Byte)
  /-- the register form of R253 to R274. -/
  | aluR (o : AluOp) (src : R8)
  /-- the (HL) form of R254 to R275. -/
  | aluAtHL (o : AluOp)
  /-- the immediate form of R255 to R276. -/
  | aluN (o : AluOp) (n : Byte)
  /-- R277. -/
  | incR (dst : R8)
  /-- R278. -/
  | incAtHL
  /-- R279. -/
  | decR (dst : R8)
  /-- R280. -/
  | decAtHL
  /-- R281. -/
  | daa
  /-- R282. -/
  | cpl
  /-- R283. -/
  | scf
  /-- R284. -/
  | ccf
  /-- R290. -/
  | addHl (rr : Pair)
  /-- R291. -/
  | incPair (rr : Pair)
  /-- R292. -/
  | decPair (rr : Pair)
  /-- R293. -/
  | addSpE (e : Byte)
  /-- R300 to R303. -/
  | rotateA (o : RotateOp)
  /-- the register form of R305 to R319. -/
  | shiftR (o : ShiftOp) (z : R8)
  /-- the (HL) form of R306 to R320. -/
  | shiftAtHL (o : ShiftOp)
  /-- R321. -/
  | bitR (b : Fin 8) (z : R8)
  /-- R322. -/
  | bitAtHL (b : Fin 8)
  /-- R323. -/
  | resR (b : Fin 8) (z : R8)
  /-- R324. -/
  | resAtHL (b : Fin 8)
  /-- R325. -/
  | setR (b : Fin 8) (z : R8)
  /-- R326. -/
  | setAtHL (b : Fin 8)
  /-- R330. -/
  | jp (nn : Word)
  /-- R331. -/
  | jpCc (cc : Cond) (nn : Word)
  /-- R332. -/
  | jpHl
  /-- R333. -/
  | jr (e : Byte)
  /-- R334. -/
  | jrCc (cc : Cond) (e : Byte)
  /-- R335. -/
  | call (nn : Word)
  /-- R336. -/
  | callCc (cc : Cond) (nn : Word)
  /-- R337, target `8 * t`. -/
  | rst (t : Fin 8)
  /-- R338. -/
  | ret
  /-- R339. -/
  | retCc (cc : Cond)
  /-- R340. -/
  | reti
deriving DecidableEq, Repr

/-- The rule and operand fields of each row: spec/opcode_table.json's "rule" and "source_fields". -/
def Instr.shape : Instr → Shape
  | .ld_bc_nn nn => .ldPairNn .bc nn
  | .ld_b_n n => .ldRN .b n
  | .ld_at_nn_sp nn => .ldNnSp nn
  | .ld_c_n n => .ldRN .c n
  | .stop n => .stop n
  | .ld_de_nn nn => .ldPairNn .de nn
  | .ld_d_n n => .ldRN .d n
  | .jr_e e => .jr e
  | .ld_e_n n => .ldRN .e n
  | .jr_nz_e e => .jrCc .nz e
  | .ld_hl_nn nn => .ldPairNn .hl nn
  | .ld_h_n n => .ldRN .h n
  | .jr_z_e e => .jrCc .z e
  | .ld_l_n n => .ldRN .l n
  | .jr_nc_e e => .jrCc .nc e
  | .ld_sp_nn nn => .ldPairNn .sp nn
  | .ld_at_hl_n n => .ldAtHLN n
  | .jr_c_e e => .jrCc .c e
  | .ld_a_n n => .ldRN .a n
  | .jp_nz_nn nn => .jpCc .nz nn
  | .jp_nn nn => .jp nn
  | .call_nz_nn nn => .callCc .nz nn
  | .add_a_n n => .aluN .add n
  | .jp_z_nn nn => .jpCc .z nn
  | .call_z_nn nn => .callCc .z nn
  | .call_nn nn => .call nn
  | .adc_a_n n => .aluN .adc n
  | .jp_nc_nn nn => .jpCc .nc nn
  | .call_nc_nn nn => .callCc .nc nn
  | .sub_n n => .aluN .sub n
  | .jp_c_nn nn => .jpCc .c nn
  | .call_c_nn nn => .callCc .c nn
  | .sbc_a_n n => .aluN .sbc n
  | .ldh_at_n_a n => .ldhAtNA n
  | .and_n n => .aluN .and n
  | .add_sp_e e => .addSpE e
  | .ld_at_nn_a nn => .ldAtNnA nn
  | .xor_n n => .aluN .xor n
  | .ldh_a_at_n n => .ldhAAtN n
  | .or_n n => .aluN .or n
  | .ld_hl_sp_e e => .ldHlSpE e
  | .ld_a_at_nn nn => .ldAAtNn nn
  | .cp_n n => .aluN .cp n
  | .nop => .nop
  | .ld_at_bc_a => .ldAtPairA .bc
  | .inc_bc => .incPair .bc
  | .inc_b => .incR .b
  | .dec_b => .decR .b
  | .rlca => .rotateA .rlc
  | .add_hl_bc => .addHl .bc
  | .ld_a_at_bc => .ldAAtPair .bc
  | .dec_bc => .decPair .bc
  | .inc_c => .incR .c
  | .dec_c => .decR .c
  | .rrca => .rotateA .rrc
  | .ld_at_de_a => .ldAtPairA .de
  | .inc_de => .incPair .de
  | .inc_d => .incR .d
  | .dec_d => .decR .d
  | .rla => .rotateA .rl
  | .add_hl_de => .addHl .de
  | .ld_a_at_de => .ldAAtPair .de
  | .dec_de => .decPair .de
  | .inc_e => .incR .e
  | .dec_e => .decR .e
  | .rra => .rotateA .rr
  | .ld_at_hli_a => .ldAtHliA
  | .inc_hl => .incPair .hl
  | .inc_h => .incR .h
  | .dec_h => .decR .h
  | .daa => .daa
  | .add_hl_hl => .addHl .hl
  | .ld_a_at_hli => .ldAAtHli
  | .dec_hl => .decPair .hl
  | .inc_l => .incR .l
  | .dec_l => .decR .l
  | .cpl => .cpl
  | .ld_at_hld_a => .ldAtHldA
  | .inc_sp => .incPair .sp
  | .inc_at_hl => .incAtHL
  | .dec_at_hl => .decAtHL
  | .scf => .scf
  | .add_hl_sp => .addHl .sp
  | .ld_a_at_hld => .ldAAtHld
  | .dec_sp => .decPair .sp
  | .inc_a => .incR .a
  | .dec_a => .decR .a
  | .ccf => .ccf
  | .ld_b_b => .ldRR .b .b
  | .ld_b_c => .ldRR .b .c
  | .ld_b_d => .ldRR .b .d
  | .ld_b_e => .ldRR .b .e
  | .ld_b_h => .ldRR .b .h
  | .ld_b_l => .ldRR .b .l
  | .ld_b_at_hl => .ldRAtHL .b
  | .ld_b_a => .ldRR .b .a
  | .ld_c_b => .ldRR .c .b
  | .ld_c_c => .ldRR .c .c
  | .ld_c_d => .ldRR .c .d
  | .ld_c_e => .ldRR .c .e
  | .ld_c_h => .ldRR .c .h
  | .ld_c_l => .ldRR .c .l
  | .ld_c_at_hl => .ldRAtHL .c
  | .ld_c_a => .ldRR .c .a
  | .ld_d_b => .ldRR .d .b
  | .ld_d_c => .ldRR .d .c
  | .ld_d_d => .ldRR .d .d
  | .ld_d_e => .ldRR .d .e
  | .ld_d_h => .ldRR .d .h
  | .ld_d_l => .ldRR .d .l
  | .ld_d_at_hl => .ldRAtHL .d
  | .ld_d_a => .ldRR .d .a
  | .ld_e_b => .ldRR .e .b
  | .ld_e_c => .ldRR .e .c
  | .ld_e_d => .ldRR .e .d
  | .ld_e_e => .ldRR .e .e
  | .ld_e_h => .ldRR .e .h
  | .ld_e_l => .ldRR .e .l
  | .ld_e_at_hl => .ldRAtHL .e
  | .ld_e_a => .ldRR .e .a
  | .ld_h_b => .ldRR .h .b
  | .ld_h_c => .ldRR .h .c
  | .ld_h_d => .ldRR .h .d
  | .ld_h_e => .ldRR .h .e
  | .ld_h_h => .ldRR .h .h
  | .ld_h_l => .ldRR .h .l
  | .ld_h_at_hl => .ldRAtHL .h
  | .ld_h_a => .ldRR .h .a
  | .ld_l_b => .ldRR .l .b
  | .ld_l_c => .ldRR .l .c
  | .ld_l_d => .ldRR .l .d
  | .ld_l_e => .ldRR .l .e
  | .ld_l_h => .ldRR .l .h
  | .ld_l_l => .ldRR .l .l
  | .ld_l_at_hl => .ldRAtHL .l
  | .ld_l_a => .ldRR .l .a
  | .ld_at_hl_b => .ldAtHLR .b
  | .ld_at_hl_c => .ldAtHLR .c
  | .ld_at_hl_d => .ldAtHLR .d
  | .ld_at_hl_e => .ldAtHLR .e
  | .ld_at_hl_h => .ldAtHLR .h
  | .ld_at_hl_l => .ldAtHLR .l
  | .halt => .halt
  | .ld_at_hl_a => .ldAtHLR .a
  | .ld_a_b => .ldRR .a .b
  | .ld_a_c => .ldRR .a .c
  | .ld_a_d => .ldRR .a .d
  | .ld_a_e => .ldRR .a .e
  | .ld_a_h => .ldRR .a .h
  | .ld_a_l => .ldRR .a .l
  | .ld_a_at_hl => .ldRAtHL .a
  | .ld_a_a => .ldRR .a .a
  | .add_a_b => .aluR .add .b
  | .add_a_c => .aluR .add .c
  | .add_a_d => .aluR .add .d
  | .add_a_e => .aluR .add .e
  | .add_a_h => .aluR .add .h
  | .add_a_l => .aluR .add .l
  | .add_a_at_hl => .aluAtHL .add
  | .add_a_a => .aluR .add .a
  | .adc_a_b => .aluR .adc .b
  | .adc_a_c => .aluR .adc .c
  | .adc_a_d => .aluR .adc .d
  | .adc_a_e => .aluR .adc .e
  | .adc_a_h => .aluR .adc .h
  | .adc_a_l => .aluR .adc .l
  | .adc_a_at_hl => .aluAtHL .adc
  | .adc_a_a => .aluR .adc .a
  | .sub_b => .aluR .sub .b
  | .sub_c => .aluR .sub .c
  | .sub_d => .aluR .sub .d
  | .sub_e => .aluR .sub .e
  | .sub_h => .aluR .sub .h
  | .sub_l => .aluR .sub .l
  | .sub_at_hl => .aluAtHL .sub
  | .sub_a => .aluR .sub .a
  | .sbc_a_b => .aluR .sbc .b
  | .sbc_a_c => .aluR .sbc .c
  | .sbc_a_d => .aluR .sbc .d
  | .sbc_a_e => .aluR .sbc .e
  | .sbc_a_h => .aluR .sbc .h
  | .sbc_a_l => .aluR .sbc .l
  | .sbc_a_at_hl => .aluAtHL .sbc
  | .sbc_a_a => .aluR .sbc .a
  | .and_b => .aluR .and .b
  | .and_c => .aluR .and .c
  | .and_d => .aluR .and .d
  | .and_e => .aluR .and .e
  | .and_h => .aluR .and .h
  | .and_l => .aluR .and .l
  | .and_at_hl => .aluAtHL .and
  | .and_a => .aluR .and .a
  | .xor_b => .aluR .xor .b
  | .xor_c => .aluR .xor .c
  | .xor_d => .aluR .xor .d
  | .xor_e => .aluR .xor .e
  | .xor_h => .aluR .xor .h
  | .xor_l => .aluR .xor .l
  | .xor_at_hl => .aluAtHL .xor
  | .xor_a => .aluR .xor .a
  | .or_b => .aluR .or .b
  | .or_c => .aluR .or .c
  | .or_d => .aluR .or .d
  | .or_e => .aluR .or .e
  | .or_h => .aluR .or .h
  | .or_l => .aluR .or .l
  | .or_at_hl => .aluAtHL .or
  | .or_a => .aluR .or .a
  | .cp_b => .aluR .cp .b
  | .cp_c => .aluR .cp .c
  | .cp_d => .aluR .cp .d
  | .cp_e => .aluR .cp .e
  | .cp_h => .aluR .cp .h
  | .cp_l => .aluR .cp .l
  | .cp_at_hl => .aluAtHL .cp
  | .cp_a => .aluR .cp .a
  | .ret_nz => .retCc .nz
  | .pop_bc => .pop .bc
  | .push_bc => .push .bc
  | .rst_00 => .rst 0
  | .ret_z => .retCc .z
  | .ret => .ret
  | .rst_08 => .rst 1
  | .ret_nc => .retCc .nc
  | .pop_de => .pop .de
  | .illegal_d3 => .illegal 0xD3
  | .push_de => .push .de
  | .rst_10 => .rst 2
  | .ret_c => .retCc .c
  | .reti => .reti
  | .illegal_db => .illegal 0xDB
  | .illegal_dd => .illegal 0xDD
  | .rst_18 => .rst 3
  | .pop_hl => .pop .hl
  | .ld_at_c_a => .ldAtCA
  | .illegal_e3 => .illegal 0xE3
  | .illegal_e4 => .illegal 0xE4
  | .push_hl => .push .hl
  | .rst_20 => .rst 4
  | .jp_at_hl => .jpHl
  | .illegal_eb => .illegal 0xEB
  | .illegal_ec => .illegal 0xEC
  | .illegal_ed => .illegal 0xED
  | .rst_28 => .rst 5
  | .pop_af => .pop .af
  | .ld_a_at_c => .ldAAtC
  | .di => .di
  | .illegal_f4 => .illegal 0xF4
  | .push_af => .push .af
  | .rst_30 => .rst 6
  | .ld_sp_hl => .ldSpHl
  | .ei => .ei
  | .illegal_fc => .illegal 0xFC
  | .illegal_fd => .illegal 0xFD
  | .rst_38 => .rst 7
  | .rlc_b => .shiftR .rlc .b
  | .rlc_c => .shiftR .rlc .c
  | .rlc_d => .shiftR .rlc .d
  | .rlc_e => .shiftR .rlc .e
  | .rlc_h => .shiftR .rlc .h
  | .rlc_l => .shiftR .rlc .l
  | .rlc_at_hl => .shiftAtHL .rlc
  | .rlc_a => .shiftR .rlc .a
  | .rrc_b => .shiftR .rrc .b
  | .rrc_c => .shiftR .rrc .c
  | .rrc_d => .shiftR .rrc .d
  | .rrc_e => .shiftR .rrc .e
  | .rrc_h => .shiftR .rrc .h
  | .rrc_l => .shiftR .rrc .l
  | .rrc_at_hl => .shiftAtHL .rrc
  | .rrc_a => .shiftR .rrc .a
  | .rl_b => .shiftR .rl .b
  | .rl_c => .shiftR .rl .c
  | .rl_d => .shiftR .rl .d
  | .rl_e => .shiftR .rl .e
  | .rl_h => .shiftR .rl .h
  | .rl_l => .shiftR .rl .l
  | .rl_at_hl => .shiftAtHL .rl
  | .rl_a => .shiftR .rl .a
  | .rr_b => .shiftR .rr .b
  | .rr_c => .shiftR .rr .c
  | .rr_d => .shiftR .rr .d
  | .rr_e => .shiftR .rr .e
  | .rr_h => .shiftR .rr .h
  | .rr_l => .shiftR .rr .l
  | .rr_at_hl => .shiftAtHL .rr
  | .rr_a => .shiftR .rr .a
  | .sla_b => .shiftR .sla .b
  | .sla_c => .shiftR .sla .c
  | .sla_d => .shiftR .sla .d
  | .sla_e => .shiftR .sla .e
  | .sla_h => .shiftR .sla .h
  | .sla_l => .shiftR .sla .l
  | .sla_at_hl => .shiftAtHL .sla
  | .sla_a => .shiftR .sla .a
  | .sra_b => .shiftR .sra .b
  | .sra_c => .shiftR .sra .c
  | .sra_d => .shiftR .sra .d
  | .sra_e => .shiftR .sra .e
  | .sra_h => .shiftR .sra .h
  | .sra_l => .shiftR .sra .l
  | .sra_at_hl => .shiftAtHL .sra
  | .sra_a => .shiftR .sra .a
  | .swap_b => .shiftR .swap .b
  | .swap_c => .shiftR .swap .c
  | .swap_d => .shiftR .swap .d
  | .swap_e => .shiftR .swap .e
  | .swap_h => .shiftR .swap .h
  | .swap_l => .shiftR .swap .l
  | .swap_at_hl => .shiftAtHL .swap
  | .swap_a => .shiftR .swap .a
  | .srl_b => .shiftR .srl .b
  | .srl_c => .shiftR .srl .c
  | .srl_d => .shiftR .srl .d
  | .srl_e => .shiftR .srl .e
  | .srl_h => .shiftR .srl .h
  | .srl_l => .shiftR .srl .l
  | .srl_at_hl => .shiftAtHL .srl
  | .srl_a => .shiftR .srl .a
  | .bit_0_b => .bitR 0 .b
  | .bit_0_c => .bitR 0 .c
  | .bit_0_d => .bitR 0 .d
  | .bit_0_e => .bitR 0 .e
  | .bit_0_h => .bitR 0 .h
  | .bit_0_l => .bitR 0 .l
  | .bit_0_at_hl => .bitAtHL 0
  | .bit_0_a => .bitR 0 .a
  | .bit_1_b => .bitR 1 .b
  | .bit_1_c => .bitR 1 .c
  | .bit_1_d => .bitR 1 .d
  | .bit_1_e => .bitR 1 .e
  | .bit_1_h => .bitR 1 .h
  | .bit_1_l => .bitR 1 .l
  | .bit_1_at_hl => .bitAtHL 1
  | .bit_1_a => .bitR 1 .a
  | .bit_2_b => .bitR 2 .b
  | .bit_2_c => .bitR 2 .c
  | .bit_2_d => .bitR 2 .d
  | .bit_2_e => .bitR 2 .e
  | .bit_2_h => .bitR 2 .h
  | .bit_2_l => .bitR 2 .l
  | .bit_2_at_hl => .bitAtHL 2
  | .bit_2_a => .bitR 2 .a
  | .bit_3_b => .bitR 3 .b
  | .bit_3_c => .bitR 3 .c
  | .bit_3_d => .bitR 3 .d
  | .bit_3_e => .bitR 3 .e
  | .bit_3_h => .bitR 3 .h
  | .bit_3_l => .bitR 3 .l
  | .bit_3_at_hl => .bitAtHL 3
  | .bit_3_a => .bitR 3 .a
  | .bit_4_b => .bitR 4 .b
  | .bit_4_c => .bitR 4 .c
  | .bit_4_d => .bitR 4 .d
  | .bit_4_e => .bitR 4 .e
  | .bit_4_h => .bitR 4 .h
  | .bit_4_l => .bitR 4 .l
  | .bit_4_at_hl => .bitAtHL 4
  | .bit_4_a => .bitR 4 .a
  | .bit_5_b => .bitR 5 .b
  | .bit_5_c => .bitR 5 .c
  | .bit_5_d => .bitR 5 .d
  | .bit_5_e => .bitR 5 .e
  | .bit_5_h => .bitR 5 .h
  | .bit_5_l => .bitR 5 .l
  | .bit_5_at_hl => .bitAtHL 5
  | .bit_5_a => .bitR 5 .a
  | .bit_6_b => .bitR 6 .b
  | .bit_6_c => .bitR 6 .c
  | .bit_6_d => .bitR 6 .d
  | .bit_6_e => .bitR 6 .e
  | .bit_6_h => .bitR 6 .h
  | .bit_6_l => .bitR 6 .l
  | .bit_6_at_hl => .bitAtHL 6
  | .bit_6_a => .bitR 6 .a
  | .bit_7_b => .bitR 7 .b
  | .bit_7_c => .bitR 7 .c
  | .bit_7_d => .bitR 7 .d
  | .bit_7_e => .bitR 7 .e
  | .bit_7_h => .bitR 7 .h
  | .bit_7_l => .bitR 7 .l
  | .bit_7_at_hl => .bitAtHL 7
  | .bit_7_a => .bitR 7 .a
  | .res_0_b => .resR 0 .b
  | .res_0_c => .resR 0 .c
  | .res_0_d => .resR 0 .d
  | .res_0_e => .resR 0 .e
  | .res_0_h => .resR 0 .h
  | .res_0_l => .resR 0 .l
  | .res_0_at_hl => .resAtHL 0
  | .res_0_a => .resR 0 .a
  | .res_1_b => .resR 1 .b
  | .res_1_c => .resR 1 .c
  | .res_1_d => .resR 1 .d
  | .res_1_e => .resR 1 .e
  | .res_1_h => .resR 1 .h
  | .res_1_l => .resR 1 .l
  | .res_1_at_hl => .resAtHL 1
  | .res_1_a => .resR 1 .a
  | .res_2_b => .resR 2 .b
  | .res_2_c => .resR 2 .c
  | .res_2_d => .resR 2 .d
  | .res_2_e => .resR 2 .e
  | .res_2_h => .resR 2 .h
  | .res_2_l => .resR 2 .l
  | .res_2_at_hl => .resAtHL 2
  | .res_2_a => .resR 2 .a
  | .res_3_b => .resR 3 .b
  | .res_3_c => .resR 3 .c
  | .res_3_d => .resR 3 .d
  | .res_3_e => .resR 3 .e
  | .res_3_h => .resR 3 .h
  | .res_3_l => .resR 3 .l
  | .res_3_at_hl => .resAtHL 3
  | .res_3_a => .resR 3 .a
  | .res_4_b => .resR 4 .b
  | .res_4_c => .resR 4 .c
  | .res_4_d => .resR 4 .d
  | .res_4_e => .resR 4 .e
  | .res_4_h => .resR 4 .h
  | .res_4_l => .resR 4 .l
  | .res_4_at_hl => .resAtHL 4
  | .res_4_a => .resR 4 .a
  | .res_5_b => .resR 5 .b
  | .res_5_c => .resR 5 .c
  | .res_5_d => .resR 5 .d
  | .res_5_e => .resR 5 .e
  | .res_5_h => .resR 5 .h
  | .res_5_l => .resR 5 .l
  | .res_5_at_hl => .resAtHL 5
  | .res_5_a => .resR 5 .a
  | .res_6_b => .resR 6 .b
  | .res_6_c => .resR 6 .c
  | .res_6_d => .resR 6 .d
  | .res_6_e => .resR 6 .e
  | .res_6_h => .resR 6 .h
  | .res_6_l => .resR 6 .l
  | .res_6_at_hl => .resAtHL 6
  | .res_6_a => .resR 6 .a
  | .res_7_b => .resR 7 .b
  | .res_7_c => .resR 7 .c
  | .res_7_d => .resR 7 .d
  | .res_7_e => .resR 7 .e
  | .res_7_h => .resR 7 .h
  | .res_7_l => .resR 7 .l
  | .res_7_at_hl => .resAtHL 7
  | .res_7_a => .resR 7 .a
  | .set_0_b => .setR 0 .b
  | .set_0_c => .setR 0 .c
  | .set_0_d => .setR 0 .d
  | .set_0_e => .setR 0 .e
  | .set_0_h => .setR 0 .h
  | .set_0_l => .setR 0 .l
  | .set_0_at_hl => .setAtHL 0
  | .set_0_a => .setR 0 .a
  | .set_1_b => .setR 1 .b
  | .set_1_c => .setR 1 .c
  | .set_1_d => .setR 1 .d
  | .set_1_e => .setR 1 .e
  | .set_1_h => .setR 1 .h
  | .set_1_l => .setR 1 .l
  | .set_1_at_hl => .setAtHL 1
  | .set_1_a => .setR 1 .a
  | .set_2_b => .setR 2 .b
  | .set_2_c => .setR 2 .c
  | .set_2_d => .setR 2 .d
  | .set_2_e => .setR 2 .e
  | .set_2_h => .setR 2 .h
  | .set_2_l => .setR 2 .l
  | .set_2_at_hl => .setAtHL 2
  | .set_2_a => .setR 2 .a
  | .set_3_b => .setR 3 .b
  | .set_3_c => .setR 3 .c
  | .set_3_d => .setR 3 .d
  | .set_3_e => .setR 3 .e
  | .set_3_h => .setR 3 .h
  | .set_3_l => .setR 3 .l
  | .set_3_at_hl => .setAtHL 3
  | .set_3_a => .setR 3 .a
  | .set_4_b => .setR 4 .b
  | .set_4_c => .setR 4 .c
  | .set_4_d => .setR 4 .d
  | .set_4_e => .setR 4 .e
  | .set_4_h => .setR 4 .h
  | .set_4_l => .setR 4 .l
  | .set_4_at_hl => .setAtHL 4
  | .set_4_a => .setR 4 .a
  | .set_5_b => .setR 5 .b
  | .set_5_c => .setR 5 .c
  | .set_5_d => .setR 5 .d
  | .set_5_e => .setR 5 .e
  | .set_5_h => .setR 5 .h
  | .set_5_l => .setR 5 .l
  | .set_5_at_hl => .setAtHL 5
  | .set_5_a => .setR 5 .a
  | .set_6_b => .setR 6 .b
  | .set_6_c => .setR 6 .c
  | .set_6_d => .setR 6 .d
  | .set_6_e => .setR 6 .e
  | .set_6_h => .setR 6 .h
  | .set_6_l => .setR 6 .l
  | .set_6_at_hl => .setAtHL 6
  | .set_6_a => .setR 6 .a
  | .set_7_b => .setR 7 .b
  | .set_7_c => .setR 7 .c
  | .set_7_d => .setR 7 .d
  | .set_7_e => .setR 7 .e
  | .set_7_h => .setR 7 .h
  | .set_7_l => .setR 7 .l
  | .set_7_at_hl => .setAtHL 7
  | .set_7_a => .setR 7 .a

end Sys2Proof
end

