-- ==== Sys2Proof/WellFormed.lean ====
section
/-! DEFINITION. Which instructions are well formed. The immediates' widths are their types (30_encoding.md R133: every
immediate value is legal), so what is left to check is R145: eleven opcodes are illegal and stand for no instruction a
program may contain. They are constructors of `Instr` (they are rows of the opcode table and decode to themselves), and
executing one raises IllegalOpcode (47_cpu_control.md R355). -/

namespace Sys2Proof

/-- The instruction is not one of the eleven illegal opcodes (30_encoding.md R145). -/
def Instr.wellFormed : Instr → Bool
  | .illegal_d3 => false
  | .illegal_db => false
  | .illegal_dd => false
  | .illegal_e3 => false
  | .illegal_e4 => false
  | .illegal_eb => false
  | .illegal_ec => false
  | .illegal_ed => false
  | .illegal_f4 => false
  | .illegal_fc => false
  | .illegal_fd => false
  | _ => true

end Sys2Proof
end

