-- ==== Sys2Proof/Decode.lean ====
section
/-! DEFINITION. Decoding and encoding (30_encoding.md). The decoder is the opcode map of R140, one list a row of the map
(the opcode's high nibble) with the columns in order, and the CB map of R147 in the same layout; the encoder is written
from the same tables. An instruction is 1, 2 or 3 bytes and its first byte fixes its length (R134). -/

namespace Sys2Proof

/-- `lo` and `hi` joined, `hi` in bits 15..8 (00_scope.md R10). -/
def joinBytes (hi lo : Byte) : Word := hi ++ lo

/-- Bits 7..0 of a word. -/
def lowByte (w : Word) : Byte := w.setWidth 8

/-- Bits 15..8 of a word. -/
def highByte (w : Word) : Byte := (w >>> 8).setWidth 8

/-- What the first byte of an instruction says of the rest: its format (R133) and the instruction it gives for the
immediate that follows. -/
inductive OpcodeForm where
  /-- Format `op`: no immediate. -/
  | op (i : Instr)
  /-- Formats `op_n` and `op_e`: one immediate byte. -/
  | byte (f : Byte → Instr)
  /-- Format `op_nn`: a two-byte immediate, low byte first. -/
  | word (f : Word → Instr)
  /-- The byte 0xCB: the CB map's opcode follows (R148). -/
  | cb

/-- How many bytes the instruction has (R134). -/
def OpcodeForm.length : OpcodeForm → Nat
  | .op _ => 1
  | .byte _ => 2
  | .word _ => 3
  | .cb => 2

/-- Row 0x of the opcode map (R140). -/
def opcodeRow0 : List OpcodeForm :=
  [ .op .nop, .word .ld_bc_nn, .op .ld_at_bc_a, .op .inc_bc,
    .op .inc_b, .op .dec_b, .byte .ld_b_n, .op .rlca,
    .word .ld_at_nn_sp, .op .add_hl_bc, .op .ld_a_at_bc, .op .dec_bc,
    .op .inc_c, .op .dec_c, .byte .ld_c_n, .op .rrca ]

/-- Row 1x of the opcode map (R140). -/
def opcodeRow1 : List OpcodeForm :=
  [ .byte .stop, .word .ld_de_nn, .op .ld_at_de_a, .op .inc_de,
    .op .inc_d, .op .dec_d, .byte .ld_d_n, .op .rla,
    .byte .jr_e, .op .add_hl_de, .op .ld_a_at_de, .op .dec_de,
    .op .inc_e, .op .dec_e, .byte .ld_e_n, .op .rra ]

/-- Row 2x of the opcode map (R140). -/
def opcodeRow2 : List OpcodeForm :=
  [ .byte .jr_nz_e, .word .ld_hl_nn, .op .ld_at_hli_a, .op .inc_hl,
    .op .inc_h, .op .dec_h, .byte .ld_h_n, .op .daa,
    .byte .jr_z_e, .op .add_hl_hl, .op .ld_a_at_hli, .op .dec_hl,
    .op .inc_l, .op .dec_l, .byte .ld_l_n, .op .cpl ]

/-- Row 3x of the opcode map (R140). -/
def opcodeRow3 : List OpcodeForm :=
  [ .byte .jr_nc_e, .word .ld_sp_nn, .op .ld_at_hld_a, .op .inc_sp,
    .op .inc_at_hl, .op .dec_at_hl, .byte .ld_at_hl_n, .op .scf,
    .byte .jr_c_e, .op .add_hl_sp, .op .ld_a_at_hld, .op .dec_sp,
    .op .inc_a, .op .dec_a, .byte .ld_a_n, .op .ccf ]

/-- Row 4x of the opcode map (R140). -/
def opcodeRow4 : List OpcodeForm :=
  [ .op .ld_b_b, .op .ld_b_c, .op .ld_b_d, .op .ld_b_e,
    .op .ld_b_h, .op .ld_b_l, .op .ld_b_at_hl, .op .ld_b_a,
    .op .ld_c_b, .op .ld_c_c, .op .ld_c_d, .op .ld_c_e,
    .op .ld_c_h, .op .ld_c_l, .op .ld_c_at_hl, .op .ld_c_a ]

/-- Row 5x of the opcode map (R140). -/
def opcodeRow5 : List OpcodeForm :=
  [ .op .ld_d_b, .op .ld_d_c, .op .ld_d_d, .op .ld_d_e,
    .op .ld_d_h, .op .ld_d_l, .op .ld_d_at_hl, .op .ld_d_a,
    .op .ld_e_b, .op .ld_e_c, .op .ld_e_d, .op .ld_e_e,
    .op .ld_e_h, .op .ld_e_l, .op .ld_e_at_hl, .op .ld_e_a ]

/-- Row 6x of the opcode map (R140). -/
def opcodeRow6 : List OpcodeForm :=
  [ .op .ld_h_b, .op .ld_h_c, .op .ld_h_d, .op .ld_h_e,
    .op .ld_h_h, .op .ld_h_l, .op .ld_h_at_hl, .op .ld_h_a,
    .op .ld_l_b, .op .ld_l_c, .op .ld_l_d, .op .ld_l_e,
    .op .ld_l_h, .op .ld_l_l, .op .ld_l_at_hl, .op .ld_l_a ]

/-- Row 7x of the opcode map (R140). -/
def opcodeRow7 : List OpcodeForm :=
  [ .op .ld_at_hl_b, .op .ld_at_hl_c, .op .ld_at_hl_d, .op .ld_at_hl_e,
    .op .ld_at_hl_h, .op .ld_at_hl_l, .op .halt, .op .ld_at_hl_a,
    .op .ld_a_b, .op .ld_a_c, .op .ld_a_d, .op .ld_a_e,
    .op .ld_a_h, .op .ld_a_l, .op .ld_a_at_hl, .op .ld_a_a ]

/-- Row 8x of the opcode map (R140). -/
def opcodeRow8 : List OpcodeForm :=
  [ .op .add_a_b, .op .add_a_c, .op .add_a_d, .op .add_a_e,
    .op .add_a_h, .op .add_a_l, .op .add_a_at_hl, .op .add_a_a,
    .op .adc_a_b, .op .adc_a_c, .op .adc_a_d, .op .adc_a_e,
    .op .adc_a_h, .op .adc_a_l, .op .adc_a_at_hl, .op .adc_a_a ]

/-- Row 9x of the opcode map (R140). -/
def opcodeRow9 : List OpcodeForm :=
  [ .op .sub_b, .op .sub_c, .op .sub_d, .op .sub_e,
    .op .sub_h, .op .sub_l, .op .sub_at_hl, .op .sub_a,
    .op .sbc_a_b, .op .sbc_a_c, .op .sbc_a_d, .op .sbc_a_e,
    .op .sbc_a_h, .op .sbc_a_l, .op .sbc_a_at_hl, .op .sbc_a_a ]

/-- Row Ax of the opcode map (R140). -/
def opcodeRowA : List OpcodeForm :=
  [ .op .and_b, .op .and_c, .op .and_d, .op .and_e,
    .op .and_h, .op .and_l, .op .and_at_hl, .op .and_a,
    .op .xor_b, .op .xor_c, .op .xor_d, .op .xor_e,
    .op .xor_h, .op .xor_l, .op .xor_at_hl, .op .xor_a ]

/-- Row Bx of the opcode map (R140). -/
def opcodeRowB : List OpcodeForm :=
  [ .op .or_b, .op .or_c, .op .or_d, .op .or_e,
    .op .or_h, .op .or_l, .op .or_at_hl, .op .or_a,
    .op .cp_b, .op .cp_c, .op .cp_d, .op .cp_e,
    .op .cp_h, .op .cp_l, .op .cp_at_hl, .op .cp_a ]

/-- Row Cx of the opcode map (R140). -/
def opcodeRowC : List OpcodeForm :=
  [ .op .ret_nz, .op .pop_bc, .word .jp_nz_nn, .word .jp_nn,
    .word .call_nz_nn, .op .push_bc, .byte .add_a_n, .op .rst_00,
    .op .ret_z, .op .ret, .word .jp_z_nn, .cb,
    .word .call_z_nn, .word .call_nn, .byte .adc_a_n, .op .rst_08 ]

/-- Row Dx of the opcode map (R140). -/
def opcodeRowD : List OpcodeForm :=
  [ .op .ret_nc, .op .pop_de, .word .jp_nc_nn, .op .illegal_d3,
    .word .call_nc_nn, .op .push_de, .byte .sub_n, .op .rst_10,
    .op .ret_c, .op .reti, .word .jp_c_nn, .op .illegal_db,
    .word .call_c_nn, .op .illegal_dd, .byte .sbc_a_n, .op .rst_18 ]

/-- Row Ex of the opcode map (R140). -/
def opcodeRowE : List OpcodeForm :=
  [ .byte .ldh_at_n_a, .op .pop_hl, .op .ld_at_c_a, .op .illegal_e3,
    .op .illegal_e4, .op .push_hl, .byte .and_n, .op .rst_20,
    .byte .add_sp_e, .op .jp_at_hl, .word .ld_at_nn_a, .op .illegal_eb,
    .op .illegal_ec, .op .illegal_ed, .byte .xor_n, .op .rst_28 ]

/-- Row Fx of the opcode map (R140). -/
def opcodeRowF : List OpcodeForm :=
  [ .byte .ldh_a_at_n, .op .pop_af, .op .ld_a_at_c, .op .di,
    .op .illegal_f4, .op .push_af, .byte .or_n, .op .rst_30,
    .byte .ld_hl_sp_e, .op .ld_sp_hl, .word .ld_a_at_nn, .op .ei,
    .op .illegal_fc, .op .illegal_fd, .byte .cp_n, .op .rst_38 ]

/-- The opcode map (R140): the form of each first byte 0x00 to 0xFF, in order. -/
def opcodeMap : List OpcodeForm :=
  opcodeRow0 ++ opcodeRow1 ++ opcodeRow2 ++ opcodeRow3 ++ opcodeRow4 ++ opcodeRow5 ++ opcodeRow6 ++ opcodeRow7 ++
  opcodeRow8 ++ opcodeRow9 ++ opcodeRowA ++ opcodeRowB ++ opcodeRowC ++ opcodeRowD ++ opcodeRowE ++ opcodeRowF

/-- CB opcodes 00 to 0F (R147). -/
def cbRow0 : List Instr :=
  [ .rlc_b, .rlc_c, .rlc_d, .rlc_e, .rlc_h, .rlc_l, .rlc_at_hl, .rlc_a,
    .rrc_b, .rrc_c, .rrc_d, .rrc_e, .rrc_h, .rrc_l, .rrc_at_hl, .rrc_a ]

/-- CB opcodes 10 to 1F (R147). -/
def cbRow1 : List Instr :=
  [ .rl_b, .rl_c, .rl_d, .rl_e, .rl_h, .rl_l, .rl_at_hl, .rl_a,
    .rr_b, .rr_c, .rr_d, .rr_e, .rr_h, .rr_l, .rr_at_hl, .rr_a ]

/-- CB opcodes 20 to 2F (R147). -/
def cbRow2 : List Instr :=
  [ .sla_b, .sla_c, .sla_d, .sla_e, .sla_h, .sla_l, .sla_at_hl, .sla_a,
    .sra_b, .sra_c, .sra_d, .sra_e, .sra_h, .sra_l, .sra_at_hl, .sra_a ]

/-- CB opcodes 30 to 3F (R147). -/
def cbRow3 : List Instr :=
  [ .swap_b, .swap_c, .swap_d, .swap_e, .swap_h, .swap_l, .swap_at_hl, .swap_a,
    .srl_b, .srl_c, .srl_d, .srl_e, .srl_h, .srl_l, .srl_at_hl, .srl_a ]

/-- CB opcodes 40 to 4F (R147). -/
def cbRow4 : List Instr :=
  [ .bit_0_b, .bit_0_c, .bit_0_d, .bit_0_e, .bit_0_h, .bit_0_l, .bit_0_at_hl, .bit_0_a,
    .bit_1_b, .bit_1_c, .bit_1_d, .bit_1_e, .bit_1_h, .bit_1_l, .bit_1_at_hl, .bit_1_a ]

/-- CB opcodes 50 to 5F (R147). -/
def cbRow5 : List Instr :=
  [ .bit_2_b, .bit_2_c, .bit_2_d, .bit_2_e, .bit_2_h, .bit_2_l, .bit_2_at_hl, .bit_2_a,
    .bit_3_b, .bit_3_c, .bit_3_d, .bit_3_e, .bit_3_h, .bit_3_l, .bit_3_at_hl, .bit_3_a ]

/-- CB opcodes 60 to 6F (R147). -/
def cbRow6 : List Instr :=
  [ .bit_4_b, .bit_4_c, .bit_4_d, .bit_4_e, .bit_4_h, .bit_4_l, .bit_4_at_hl, .bit_4_a,
    .bit_5_b, .bit_5_c, .bit_5_d, .bit_5_e, .bit_5_h, .bit_5_l, .bit_5_at_hl, .bit_5_a ]

/-- CB opcodes 70 to 7F (R147). -/
def cbRow7 : List Instr :=
  [ .bit_6_b, .bit_6_c, .bit_6_d, .bit_6_e, .bit_6_h, .bit_6_l, .bit_6_at_hl, .bit_6_a,
    .bit_7_b, .bit_7_c, .bit_7_d, .bit_7_e, .bit_7_h, .bit_7_l, .bit_7_at_hl, .bit_7_a ]

/-- CB opcodes 80 to 8F (R147). -/
def cbRow8 : List Instr :=
  [ .res_0_b, .res_0_c, .res_0_d, .res_0_e, .res_0_h, .res_0_l, .res_0_at_hl, .res_0_a,
    .res_1_b, .res_1_c, .res_1_d, .res_1_e, .res_1_h, .res_1_l, .res_1_at_hl, .res_1_a ]

/-- CB opcodes 90 to 9F (R147). -/
def cbRow9 : List Instr :=
  [ .res_2_b, .res_2_c, .res_2_d, .res_2_e, .res_2_h, .res_2_l, .res_2_at_hl, .res_2_a,
    .res_3_b, .res_3_c, .res_3_d, .res_3_e, .res_3_h, .res_3_l, .res_3_at_hl, .res_3_a ]

/-- CB opcodes A0 to AF (R147). -/
def cbRowA : List Instr :=
  [ .res_4_b, .res_4_c, .res_4_d, .res_4_e, .res_4_h, .res_4_l, .res_4_at_hl, .res_4_a,
    .res_5_b, .res_5_c, .res_5_d, .res_5_e, .res_5_h, .res_5_l, .res_5_at_hl, .res_5_a ]

/-- CB opcodes B0 to BF (R147). -/
def cbRowB : List Instr :=
  [ .res_6_b, .res_6_c, .res_6_d, .res_6_e, .res_6_h, .res_6_l, .res_6_at_hl, .res_6_a,
    .res_7_b, .res_7_c, .res_7_d, .res_7_e, .res_7_h, .res_7_l, .res_7_at_hl, .res_7_a ]

/-- CB opcodes C0 to CF (R147). -/
def cbRowC : List Instr :=
  [ .set_0_b, .set_0_c, .set_0_d, .set_0_e, .set_0_h, .set_0_l, .set_0_at_hl, .set_0_a,
    .set_1_b, .set_1_c, .set_1_d, .set_1_e, .set_1_h, .set_1_l, .set_1_at_hl, .set_1_a ]

/-- CB opcodes D0 to DF (R147). -/
def cbRowD : List Instr :=
  [ .set_2_b, .set_2_c, .set_2_d, .set_2_e, .set_2_h, .set_2_l, .set_2_at_hl, .set_2_a,
    .set_3_b, .set_3_c, .set_3_d, .set_3_e, .set_3_h, .set_3_l, .set_3_at_hl, .set_3_a ]

/-- CB opcodes E0 to EF (R147). -/
def cbRowE : List Instr :=
  [ .set_4_b, .set_4_c, .set_4_d, .set_4_e, .set_4_h, .set_4_l, .set_4_at_hl, .set_4_a,
    .set_5_b, .set_5_c, .set_5_d, .set_5_e, .set_5_h, .set_5_l, .set_5_at_hl, .set_5_a ]

/-- CB opcodes F0 to FF (R147). -/
def cbRowF : List Instr :=
  [ .set_6_b, .set_6_c, .set_6_d, .set_6_e, .set_6_h, .set_6_l, .set_6_at_hl, .set_6_a,
    .set_7_b, .set_7_c, .set_7_d, .set_7_e, .set_7_h, .set_7_l, .set_7_at_hl, .set_7_a ]

/-- The CB map (R147): the instruction of each byte 0x00 to 0xFF after the byte 0xCB, in order. -/
def cbMap : List Instr :=
  cbRow0 ++ cbRow1 ++ cbRow2 ++ cbRow3 ++ cbRow4 ++ cbRow5 ++ cbRow6 ++ cbRow7 ++
  cbRow8 ++ cbRow9 ++ cbRowA ++ cbRowB ++ cbRowC ++ cbRowD ++ cbRowE ++ cbRowF

/-- The form of a first byte. The map has 256 entries, so the default is never taken. -/
def opcodeForm (op : Byte) : OpcodeForm := opcodeMap.getD op.toNat .cb

/-- The instruction of a CB opcode. The map has 256 entries, so the default is never taken. -/
def cbInstr (op : Byte) : Instr := cbMap.getD op.toNat .nop

/-- How many bytes an instruction has, as a function of its first byte alone (R134). -/
def instrLength (op : Byte) : Nat := (opcodeForm op).length

/-- Why a list of bytes does not decode. Every first byte has a form (R146), so only missing bytes are refused. -/
inductive DecodeError where
  /-- There is no first byte. -/
  | noBytes
  /-- The instruction that begins with `op` has more bytes than the list. -/
  | truncated (op : Byte)
deriving DecidableEq, Repr

/-- Decode one instruction from the front of a list of bytes: the instruction and the bytes after it. -/
def decode : List Byte → Except DecodeError (Instr × List Byte)
  | [] => .error .noBytes
  | op :: rest =>
    match opcodeForm op, rest with
    | .op i, rest => .ok (i, rest)
    | .byte f, n :: rest => .ok (f n, rest)
    | .word f, lo :: hi :: rest => .ok (f (joinBytes hi lo), rest)
    | .cb, op2 :: rest => .ok (cbInstr op2, rest)
    | .byte _, [] => .error (.truncated op)
    | .word _, [] => .error (.truncated op)
    | .word _, [_] => .error (.truncated op)
    | .cb, [] => .error (.truncated op)

/-- The bytes of an instruction whose bits are `w`, numbered as spec/opcode_table.json numbers them, in the order the
hardware stores them, padded with zero bytes to the longest instruction (log 11). The table numbers a CB row's two bytes
with the byte 0xCB in bits 15..8; every other row is one byte wide in the table and its immediate bytes are zero. -/
def tableBytes (nbits w : Nat) : List Byte :=
  let v := w % 2 ^ nbits
  if nbits = 16 ∧ v / 256 = 0xCB then [0xCB, BitVec.ofNat 8 v, 0]
  else [BitVec.ofNat 8 v, BitVec.ofNat 8 (v / 256), BitVec.ofNat 8 (v / 65536)]

/-- The instruction the decoder reads from a row's word of spec/opcode_table.json. -/
def decodeTableWord (nbits w : Nat) : Option Instr :=
  match decode (tableBytes nbits w) with
  | .ok (i, _) => some i
  | .error _ => none

/-- The bytes of a two-byte immediate, low byte first (R133). -/
def wordBytes (nn : Word) : List Byte := [lowByte nn, highByte nn]

/-- The bytes of an instruction, in the order they are stored (R133, R140, R147). STOP's second byte is any byte. -/
def encode : Instr → List Byte
  | .ld_bc_nn nn => 0x01 :: wordBytes nn
  | .ld_b_n n => [0x06, n]
  | .ld_at_nn_sp nn => 0x08 :: wordBytes nn
  | .ld_c_n n => [0x0E, n]
  | .stop n => [0x10, n]
  | .ld_de_nn nn => 0x11 :: wordBytes nn
  | .ld_d_n n => [0x16, n]
  | .jr_e e => [0x18, e]
  | .ld_e_n n => [0x1E, n]
  | .jr_nz_e e => [0x20, e]
  | .ld_hl_nn nn => 0x21 :: wordBytes nn
  | .ld_h_n n => [0x26, n]
  | .jr_z_e e => [0x28, e]
  | .ld_l_n n => [0x2E, n]
  | .jr_nc_e e => [0x30, e]
  | .ld_sp_nn nn => 0x31 :: wordBytes nn
  | .ld_at_hl_n n => [0x36, n]
  | .jr_c_e e => [0x38, e]
  | .ld_a_n n => [0x3E, n]
  | .jp_nz_nn nn => 0xC2 :: wordBytes nn
  | .jp_nn nn => 0xC3 :: wordBytes nn
  | .call_nz_nn nn => 0xC4 :: wordBytes nn
  | .add_a_n n => [0xC6, n]
  | .jp_z_nn nn => 0xCA :: wordBytes nn
  | .call_z_nn nn => 0xCC :: wordBytes nn
  | .call_nn nn => 0xCD :: wordBytes nn
  | .adc_a_n n => [0xCE, n]
  | .jp_nc_nn nn => 0xD2 :: wordBytes nn
  | .call_nc_nn nn => 0xD4 :: wordBytes nn
  | .sub_n n => [0xD6, n]
  | .jp_c_nn nn => 0xDA :: wordBytes nn
  | .call_c_nn nn => 0xDC :: wordBytes nn
  | .sbc_a_n n => [0xDE, n]
  | .ldh_at_n_a n => [0xE0, n]
  | .and_n n => [0xE6, n]
  | .add_sp_e e => [0xE8, e]
  | .ld_at_nn_a nn => 0xEA :: wordBytes nn
  | .xor_n n => [0xEE, n]
  | .ldh_a_at_n n => [0xF0, n]
  | .or_n n => [0xF6, n]
  | .ld_hl_sp_e e => [0xF8, e]
  | .ld_a_at_nn nn => 0xFA :: wordBytes nn
  | .cp_n n => [0xFE, n]
  | .nop => [0x00]
  | .ld_at_bc_a => [0x02]
  | .inc_bc => [0x03]
  | .inc_b => [0x04]
  | .dec_b => [0x05]
  | .rlca => [0x07]
  | .add_hl_bc => [0x09]
  | .ld_a_at_bc => [0x0A]
  | .dec_bc => [0x0B]
  | .inc_c => [0x0C]
  | .dec_c => [0x0D]
  | .rrca => [0x0F]
  | .ld_at_de_a => [0x12]
  | .inc_de => [0x13]
  | .inc_d => [0x14]
  | .dec_d => [0x15]
  | .rla => [0x17]
  | .add_hl_de => [0x19]
  | .ld_a_at_de => [0x1A]
  | .dec_de => [0x1B]
  | .inc_e => [0x1C]
  | .dec_e => [0x1D]
  | .rra => [0x1F]
  | .ld_at_hli_a => [0x22]
  | .inc_hl => [0x23]
  | .inc_h => [0x24]
  | .dec_h => [0x25]
  | .daa => [0x27]
  | .add_hl_hl => [0x29]
  | .ld_a_at_hli => [0x2A]
  | .dec_hl => [0x2B]
  | .inc_l => [0x2C]
  | .dec_l => [0x2D]
  | .cpl => [0x2F]
  | .ld_at_hld_a => [0x32]
  | .inc_sp => [0x33]
  | .inc_at_hl => [0x34]
  | .dec_at_hl => [0x35]
  | .scf => [0x37]
  | .add_hl_sp => [0x39]
  | .ld_a_at_hld => [0x3A]
  | .dec_sp => [0x3B]
  | .inc_a => [0x3C]
  | .dec_a => [0x3D]
  | .ccf => [0x3F]
  | .ld_b_b => [0x40]
  | .ld_b_c => [0x41]
  | .ld_b_d => [0x42]
  | .ld_b_e => [0x43]
  | .ld_b_h => [0x44]
  | .ld_b_l => [0x45]
  | .ld_b_at_hl => [0x46]
  | .ld_b_a => [0x47]
  | .ld_c_b => [0x48]
  | .ld_c_c => [0x49]
  | .ld_c_d => [0x4A]
  | .ld_c_e => [0x4B]
  | .ld_c_h => [0x4C]
  | .ld_c_l => [0x4D]
  | .ld_c_at_hl => [0x4E]
  | .ld_c_a => [0x4F]
  | .ld_d_b => [0x50]
  | .ld_d_c => [0x51]
  | .ld_d_d => [0x52]
  | .ld_d_e => [0x53]
  | .ld_d_h => [0x54]
  | .ld_d_l => [0x55]
  | .ld_d_at_hl => [0x56]
  | .ld_d_a => [0x57]
  | .ld_e_b => [0x58]
  | .ld_e_c => [0x59]
  | .ld_e_d => [0x5A]
  | .ld_e_e => [0x5B]
  | .ld_e_h => [0x5C]
  | .ld_e_l => [0x5D]
  | .ld_e_at_hl => [0x5E]
  | .ld_e_a => [0x5F]
  | .ld_h_b => [0x60]
  | .ld_h_c => [0x61]
  | .ld_h_d => [0x62]
  | .ld_h_e => [0x63]
  | .ld_h_h => [0x64]
  | .ld_h_l => [0x65]
  | .ld_h_at_hl => [0x66]
  | .ld_h_a => [0x67]
  | .ld_l_b => [0x68]
  | .ld_l_c => [0x69]
  | .ld_l_d => [0x6A]
  | .ld_l_e => [0x6B]
  | .ld_l_h => [0x6C]
  | .ld_l_l => [0x6D]
  | .ld_l_at_hl => [0x6E]
  | .ld_l_a => [0x6F]
  | .ld_at_hl_b => [0x70]
  | .ld_at_hl_c => [0x71]
  | .ld_at_hl_d => [0x72]
  | .ld_at_hl_e => [0x73]
  | .ld_at_hl_h => [0x74]
  | .ld_at_hl_l => [0x75]
  | .halt => [0x76]
  | .ld_at_hl_a => [0x77]
  | .ld_a_b => [0x78]
  | .ld_a_c => [0x79]
  | .ld_a_d => [0x7A]
  | .ld_a_e => [0x7B]
  | .ld_a_h => [0x7C]
  | .ld_a_l => [0x7D]
  | .ld_a_at_hl => [0x7E]
  | .ld_a_a => [0x7F]
  | .add_a_b => [0x80]
  | .add_a_c => [0x81]
  | .add_a_d => [0x82]
  | .add_a_e => [0x83]
  | .add_a_h => [0x84]
  | .add_a_l => [0x85]
  | .add_a_at_hl => [0x86]
  | .add_a_a => [0x87]
  | .adc_a_b => [0x88]
  | .adc_a_c => [0x89]
  | .adc_a_d => [0x8A]
  | .adc_a_e => [0x8B]
  | .adc_a_h => [0x8C]
  | .adc_a_l => [0x8D]
  | .adc_a_at_hl => [0x8E]
  | .adc_a_a => [0x8F]
  | .sub_b => [0x90]
  | .sub_c => [0x91]
  | .sub_d => [0x92]
  | .sub_e => [0x93]
  | .sub_h => [0x94]
  | .sub_l => [0x95]
  | .sub_at_hl => [0x96]
  | .sub_a => [0x97]
  | .sbc_a_b => [0x98]
  | .sbc_a_c => [0x99]
  | .sbc_a_d => [0x9A]
  | .sbc_a_e => [0x9B]
  | .sbc_a_h => [0x9C]
  | .sbc_a_l => [0x9D]
  | .sbc_a_at_hl => [0x9E]
  | .sbc_a_a => [0x9F]
  | .and_b => [0xA0]
  | .and_c => [0xA1]
  | .and_d => [0xA2]
  | .and_e => [0xA3]
  | .and_h => [0xA4]
  | .and_l => [0xA5]
  | .and_at_hl => [0xA6]
  | .and_a => [0xA7]
  | .xor_b => [0xA8]
  | .xor_c => [0xA9]
  | .xor_d => [0xAA]
  | .xor_e => [0xAB]
  | .xor_h => [0xAC]
  | .xor_l => [0xAD]
  | .xor_at_hl => [0xAE]
  | .xor_a => [0xAF]
  | .or_b => [0xB0]
  | .or_c => [0xB1]
  | .or_d => [0xB2]
  | .or_e => [0xB3]
  | .or_h => [0xB4]
  | .or_l => [0xB5]
  | .or_at_hl => [0xB6]
  | .or_a => [0xB7]
  | .cp_b => [0xB8]
  | .cp_c => [0xB9]
  | .cp_d => [0xBA]
  | .cp_e => [0xBB]
  | .cp_h => [0xBC]
  | .cp_l => [0xBD]
  | .cp_at_hl => [0xBE]
  | .cp_a => [0xBF]
  | .ret_nz => [0xC0]
  | .pop_bc => [0xC1]
  | .push_bc => [0xC5]
  | .rst_00 => [0xC7]
  | .ret_z => [0xC8]
  | .ret => [0xC9]
  | .rst_08 => [0xCF]
  | .ret_nc => [0xD0]
  | .pop_de => [0xD1]
  | .illegal_d3 => [0xD3]
  | .push_de => [0xD5]
  | .rst_10 => [0xD7]
  | .ret_c => [0xD8]
  | .reti => [0xD9]
  | .illegal_db => [0xDB]
  | .illegal_dd => [0xDD]
  | .rst_18 => [0xDF]
  | .pop_hl => [0xE1]
  | .ld_at_c_a => [0xE2]
  | .illegal_e3 => [0xE3]
  | .illegal_e4 => [0xE4]
  | .push_hl => [0xE5]
  | .rst_20 => [0xE7]
  | .jp_at_hl => [0xE9]
  | .illegal_eb => [0xEB]
  | .illegal_ec => [0xEC]
  | .illegal_ed => [0xED]
  | .rst_28 => [0xEF]
  | .pop_af => [0xF1]
  | .ld_a_at_c => [0xF2]
  | .di => [0xF3]
  | .illegal_f4 => [0xF4]
  | .push_af => [0xF5]
  | .rst_30 => [0xF7]
  | .ld_sp_hl => [0xF9]
  | .ei => [0xFB]
  | .illegal_fc => [0xFC]
  | .illegal_fd => [0xFD]
  | .rst_38 => [0xFF]
  | .rlc_b => [0xCB, 0x00]
  | .rlc_c => [0xCB, 0x01]
  | .rlc_d => [0xCB, 0x02]
  | .rlc_e => [0xCB, 0x03]
  | .rlc_h => [0xCB, 0x04]
  | .rlc_l => [0xCB, 0x05]
  | .rlc_at_hl => [0xCB, 0x06]
  | .rlc_a => [0xCB, 0x07]
  | .rrc_b => [0xCB, 0x08]
  | .rrc_c => [0xCB, 0x09]
  | .rrc_d => [0xCB, 0x0A]
  | .rrc_e => [0xCB, 0x0B]
  | .rrc_h => [0xCB, 0x0C]
  | .rrc_l => [0xCB, 0x0D]
  | .rrc_at_hl => [0xCB, 0x0E]
  | .rrc_a => [0xCB, 0x0F]
  | .rl_b => [0xCB, 0x10]
  | .rl_c => [0xCB, 0x11]
  | .rl_d => [0xCB, 0x12]
  | .rl_e => [0xCB, 0x13]
  | .rl_h => [0xCB, 0x14]
  | .rl_l => [0xCB, 0x15]
  | .rl_at_hl => [0xCB, 0x16]
  | .rl_a => [0xCB, 0x17]
  | .rr_b => [0xCB, 0x18]
  | .rr_c => [0xCB, 0x19]
  | .rr_d => [0xCB, 0x1A]
  | .rr_e => [0xCB, 0x1B]
  | .rr_h => [0xCB, 0x1C]
  | .rr_l => [0xCB, 0x1D]
  | .rr_at_hl => [0xCB, 0x1E]
  | .rr_a => [0xCB, 0x1F]
  | .sla_b => [0xCB, 0x20]
  | .sla_c => [0xCB, 0x21]
  | .sla_d => [0xCB, 0x22]
  | .sla_e => [0xCB, 0x23]
  | .sla_h => [0xCB, 0x24]
  | .sla_l => [0xCB, 0x25]
  | .sla_at_hl => [0xCB, 0x26]
  | .sla_a => [0xCB, 0x27]
  | .sra_b => [0xCB, 0x28]
  | .sra_c => [0xCB, 0x29]
  | .sra_d => [0xCB, 0x2A]
  | .sra_e => [0xCB, 0x2B]
  | .sra_h => [0xCB, 0x2C]
  | .sra_l => [0xCB, 0x2D]
  | .sra_at_hl => [0xCB, 0x2E]
  | .sra_a => [0xCB, 0x2F]
  | .swap_b => [0xCB, 0x30]
  | .swap_c => [0xCB, 0x31]
  | .swap_d => [0xCB, 0x32]
  | .swap_e => [0xCB, 0x33]
  | .swap_h => [0xCB, 0x34]
  | .swap_l => [0xCB, 0x35]
  | .swap_at_hl => [0xCB, 0x36]
  | .swap_a => [0xCB, 0x37]
  | .srl_b => [0xCB, 0x38]
  | .srl_c => [0xCB, 0x39]
  | .srl_d => [0xCB, 0x3A]
  | .srl_e => [0xCB, 0x3B]
  | .srl_h => [0xCB, 0x3C]
  | .srl_l => [0xCB, 0x3D]
  | .srl_at_hl => [0xCB, 0x3E]
  | .srl_a => [0xCB, 0x3F]
  | .bit_0_b => [0xCB, 0x40]
  | .bit_0_c => [0xCB, 0x41]
  | .bit_0_d => [0xCB, 0x42]
  | .bit_0_e => [0xCB, 0x43]
  | .bit_0_h => [0xCB, 0x44]
  | .bit_0_l => [0xCB, 0x45]
  | .bit_0_at_hl => [0xCB, 0x46]
  | .bit_0_a => [0xCB, 0x47]
  | .bit_1_b => [0xCB, 0x48]
  | .bit_1_c => [0xCB, 0x49]
  | .bit_1_d => [0xCB, 0x4A]
  | .bit_1_e => [0xCB, 0x4B]
  | .bit_1_h => [0xCB, 0x4C]
  | .bit_1_l => [0xCB, 0x4D]
  | .bit_1_at_hl => [0xCB, 0x4E]
  | .bit_1_a => [0xCB, 0x4F]
  | .bit_2_b => [0xCB, 0x50]
  | .bit_2_c => [0xCB, 0x51]
  | .bit_2_d => [0xCB, 0x52]
  | .bit_2_e => [0xCB, 0x53]
  | .bit_2_h => [0xCB, 0x54]
  | .bit_2_l => [0xCB, 0x55]
  | .bit_2_at_hl => [0xCB, 0x56]
  | .bit_2_a => [0xCB, 0x57]
  | .bit_3_b => [0xCB, 0x58]
  | .bit_3_c => [0xCB, 0x59]
  | .bit_3_d => [0xCB, 0x5A]
  | .bit_3_e => [0xCB, 0x5B]
  | .bit_3_h => [0xCB, 0x5C]
  | .bit_3_l => [0xCB, 0x5D]
  | .bit_3_at_hl => [0xCB, 0x5E]
  | .bit_3_a => [0xCB, 0x5F]
  | .bit_4_b => [0xCB, 0x60]
  | .bit_4_c => [0xCB, 0x61]
  | .bit_4_d => [0xCB, 0x62]
  | .bit_4_e => [0xCB, 0x63]
  | .bit_4_h => [0xCB, 0x64]
  | .bit_4_l => [0xCB, 0x65]
  | .bit_4_at_hl => [0xCB, 0x66]
  | .bit_4_a => [0xCB, 0x67]
  | .bit_5_b => [0xCB, 0x68]
  | .bit_5_c => [0xCB, 0x69]
  | .bit_5_d => [0xCB, 0x6A]
  | .bit_5_e => [0xCB, 0x6B]
  | .bit_5_h => [0xCB, 0x6C]
  | .bit_5_l => [0xCB, 0x6D]
  | .bit_5_at_hl => [0xCB, 0x6E]
  | .bit_5_a => [0xCB, 0x6F]
  | .bit_6_b => [0xCB, 0x70]
  | .bit_6_c => [0xCB, 0x71]
  | .bit_6_d => [0xCB, 0x72]
  | .bit_6_e => [0xCB, 0x73]
  | .bit_6_h => [0xCB, 0x74]
  | .bit_6_l => [0xCB, 0x75]
  | .bit_6_at_hl => [0xCB, 0x76]
  | .bit_6_a => [0xCB, 0x77]
  | .bit_7_b => [0xCB, 0x78]
  | .bit_7_c => [0xCB, 0x79]
  | .bit_7_d => [0xCB, 0x7A]
  | .bit_7_e => [0xCB, 0x7B]
  | .bit_7_h => [0xCB, 0x7C]
  | .bit_7_l => [0xCB, 0x7D]
  | .bit_7_at_hl => [0xCB, 0x7E]
  | .bit_7_a => [0xCB, 0x7F]
  | .res_0_b => [0xCB, 0x80]
  | .res_0_c => [0xCB, 0x81]
  | .res_0_d => [0xCB, 0x82]
  | .res_0_e => [0xCB, 0x83]
  | .res_0_h => [0xCB, 0x84]
  | .res_0_l => [0xCB, 0x85]
  | .res_0_at_hl => [0xCB, 0x86]
  | .res_0_a => [0xCB, 0x87]
  | .res_1_b => [0xCB, 0x88]
  | .res_1_c => [0xCB, 0x89]
  | .res_1_d => [0xCB, 0x8A]
  | .res_1_e => [0xCB, 0x8B]
  | .res_1_h => [0xCB, 0x8C]
  | .res_1_l => [0xCB, 0x8D]
  | .res_1_at_hl => [0xCB, 0x8E]
  | .res_1_a => [0xCB, 0x8F]
  | .res_2_b => [0xCB, 0x90]
  | .res_2_c => [0xCB, 0x91]
  | .res_2_d => [0xCB, 0x92]
  | .res_2_e => [0xCB, 0x93]
  | .res_2_h => [0xCB, 0x94]
  | .res_2_l => [0xCB, 0x95]
  | .res_2_at_hl => [0xCB, 0x96]
  | .res_2_a => [0xCB, 0x97]
  | .res_3_b => [0xCB, 0x98]
  | .res_3_c => [0xCB, 0x99]
  | .res_3_d => [0xCB, 0x9A]
  | .res_3_e => [0xCB, 0x9B]
  | .res_3_h => [0xCB, 0x9C]
  | .res_3_l => [0xCB, 0x9D]
  | .res_3_at_hl => [0xCB, 0x9E]
  | .res_3_a => [0xCB, 0x9F]
  | .res_4_b => [0xCB, 0xA0]
  | .res_4_c => [0xCB, 0xA1]
  | .res_4_d => [0xCB, 0xA2]
  | .res_4_e => [0xCB, 0xA3]
  | .res_4_h => [0xCB, 0xA4]
  | .res_4_l => [0xCB, 0xA5]
  | .res_4_at_hl => [0xCB, 0xA6]
  | .res_4_a => [0xCB, 0xA7]
  | .res_5_b => [0xCB, 0xA8]
  | .res_5_c => [0xCB, 0xA9]
  | .res_5_d => [0xCB, 0xAA]
  | .res_5_e => [0xCB, 0xAB]
  | .res_5_h => [0xCB, 0xAC]
  | .res_5_l => [0xCB, 0xAD]
  | .res_5_at_hl => [0xCB, 0xAE]
  | .res_5_a => [0xCB, 0xAF]
  | .res_6_b => [0xCB, 0xB0]
  | .res_6_c => [0xCB, 0xB1]
  | .res_6_d => [0xCB, 0xB2]
  | .res_6_e => [0xCB, 0xB3]
  | .res_6_h => [0xCB, 0xB4]
  | .res_6_l => [0xCB, 0xB5]
  | .res_6_at_hl => [0xCB, 0xB6]
  | .res_6_a => [0xCB, 0xB7]
  | .res_7_b => [0xCB, 0xB8]
  | .res_7_c => [0xCB, 0xB9]
  | .res_7_d => [0xCB, 0xBA]
  | .res_7_e => [0xCB, 0xBB]
  | .res_7_h => [0xCB, 0xBC]
  | .res_7_l => [0xCB, 0xBD]
  | .res_7_at_hl => [0xCB, 0xBE]
  | .res_7_a => [0xCB, 0xBF]
  | .set_0_b => [0xCB, 0xC0]
  | .set_0_c => [0xCB, 0xC1]
  | .set_0_d => [0xCB, 0xC2]
  | .set_0_e => [0xCB, 0xC3]
  | .set_0_h => [0xCB, 0xC4]
  | .set_0_l => [0xCB, 0xC5]
  | .set_0_at_hl => [0xCB, 0xC6]
  | .set_0_a => [0xCB, 0xC7]
  | .set_1_b => [0xCB, 0xC8]
  | .set_1_c => [0xCB, 0xC9]
  | .set_1_d => [0xCB, 0xCA]
  | .set_1_e => [0xCB, 0xCB]
  | .set_1_h => [0xCB, 0xCC]
  | .set_1_l => [0xCB, 0xCD]
  | .set_1_at_hl => [0xCB, 0xCE]
  | .set_1_a => [0xCB, 0xCF]
  | .set_2_b => [0xCB, 0xD0]
  | .set_2_c => [0xCB, 0xD1]
  | .set_2_d => [0xCB, 0xD2]
  | .set_2_e => [0xCB, 0xD3]
  | .set_2_h => [0xCB, 0xD4]
  | .set_2_l => [0xCB, 0xD5]
  | .set_2_at_hl => [0xCB, 0xD6]
  | .set_2_a => [0xCB, 0xD7]
  | .set_3_b => [0xCB, 0xD8]
  | .set_3_c => [0xCB, 0xD9]
  | .set_3_d => [0xCB, 0xDA]
  | .set_3_e => [0xCB, 0xDB]
  | .set_3_h => [0xCB, 0xDC]
  | .set_3_l => [0xCB, 0xDD]
  | .set_3_at_hl => [0xCB, 0xDE]
  | .set_3_a => [0xCB, 0xDF]
  | .set_4_b => [0xCB, 0xE0]
  | .set_4_c => [0xCB, 0xE1]
  | .set_4_d => [0xCB, 0xE2]
  | .set_4_e => [0xCB, 0xE3]
  | .set_4_h => [0xCB, 0xE4]
  | .set_4_l => [0xCB, 0xE5]
  | .set_4_at_hl => [0xCB, 0xE6]
  | .set_4_a => [0xCB, 0xE7]
  | .set_5_b => [0xCB, 0xE8]
  | .set_5_c => [0xCB, 0xE9]
  | .set_5_d => [0xCB, 0xEA]
  | .set_5_e => [0xCB, 0xEB]
  | .set_5_h => [0xCB, 0xEC]
  | .set_5_l => [0xCB, 0xED]
  | .set_5_at_hl => [0xCB, 0xEE]
  | .set_5_a => [0xCB, 0xEF]
  | .set_6_b => [0xCB, 0xF0]
  | .set_6_c => [0xCB, 0xF1]
  | .set_6_d => [0xCB, 0xF2]
  | .set_6_e => [0xCB, 0xF3]
  | .set_6_h => [0xCB, 0xF4]
  | .set_6_l => [0xCB, 0xF5]
  | .set_6_at_hl => [0xCB, 0xF6]
  | .set_6_a => [0xCB, 0xF7]
  | .set_7_b => [0xCB, 0xF8]
  | .set_7_c => [0xCB, 0xF9]
  | .set_7_d => [0xCB, 0xFA]
  | .set_7_e => [0xCB, 0xFB]
  | .set_7_h => [0xCB, 0xFC]
  | .set_7_l => [0xCB, 0xFD]
  | .set_7_at_hl => [0xCB, 0xFE]
  | .set_7_a => [0xCB, 0xFF]

/-! ## The operand fields' values -/

/-- The 3-bit register field (R136). -/
def R8.code : R8 → BitVec 3
  | .b => 0
  | .c => 1
  | .d => 2
  | .e => 3
  | .h => 4
  | .l => 5
  | .a => 7

/-- The 2-bit field `rr` (R137). -/
def Pair.code : Pair → BitVec 2
  | .bc => 0
  | .de => 1
  | .hl => 2
  | .sp => 3

/-- The 2-bit field `qq` (R137). -/
def StackPair.code : StackPair → BitVec 2
  | .bc => 0
  | .de => 1
  | .hl => 2
  | .af => 3

/-- The condition field (R138). -/
def Cond.code : Cond → BitVec 2
  | .nz => 0
  | .z => 1
  | .nc => 2
  | .c => 3

/-- The ALU operation field (R139). -/
def AluOp.code : AluOp → BitVec 3
  | .add => 0
  | .adc => 1
  | .sub => 2
  | .sbc => 3
  | .and => 4
  | .xor => 5
  | .or => 6
  | .cp => 7

/-- The CB operation field, bits 5..3 of CB opcodes 0x00 to 0x3F (R147). -/
def ShiftOp.code : ShiftOp → BitVec 3
  | .rlc => 0
  | .rrc => 1
  | .rl => 2
  | .rr => 3
  | .sla => 4
  | .sra => 5
  | .swap => 6
  | .srl => 7

/-- A bit number or restart target as its 3-bit field (R139). -/
def fieldCode (k : Fin 8) : BitVec 3 := BitVec.ofFin k

/-- The length of each shape in bytes, as spec/opcode_table.json's "length" column gives it (R130, R134). -/
def Shape.length : Shape → Nat
  | .stop _ | .ldRN _ _ | .ldAtHLN _ | .ldhAAtN _ | .ldhAtNA _ | .ldHlSpE _ | .aluN _ _ | .addSpE _ | .jr _ | .jrCc _ _ => 2
  | .ldAAtNn _ | .ldAtNnA _ | .ldPairNn _ _ | .ldNnSp _ | .jp _ | .jpCc _ _ | .call _ | .callCc _ _ => 3
  | .shiftR _ _ | .shiftAtHL _ | .bitR _ _ | .bitAtHL _ | .resR _ _ | .resAtHL _ | .setR _ _ | .setAtHL _ => 2
  | _ => 1

end Sys2Proof
end

