-- ==== Sys2Proof/Config.lean ====
section
/-! DEFINITION. What is fixed for one machine (00_scope.md R8): the parameters with the value the spec takes for
them, and the free values, which have no body so that no proof can see what they are. -/

namespace Sys2Proof.Config

/-- The value of a read the bus cannot serve (R8; 92_eei_decisions.md D15). -/
def openBusValue : Byte := 0xFF

/-- The sink's `screenWidth` (60_exceptions.md R465). -/
def screenWidth : Nat := 160

/-- The sink's `screenHeight` (60_exceptions.md R465). -/
def screenHeight : Nat := 144

/-- FREE VALUE. `ramInit draw key`: what the RAM cell `key` holds after the `draw`-th reset, before anything is
written to it (10_state.md R41; 92_eei_decisions.md D32; 93_implementation_defined.md I8; log 2). -/
opaque ramInit : Nat → Nat → Byte

/-- FREE VALUE. `joypadLow draw select`: bits 3..0 of a read of 0xFF00, the host's draw number `draw`
for the select bits the program wrote (20_memory.md R98; 93_implementation_defined.md I9; log 3). -/
opaque joypadLow : Nat → BitVec 2 → BitVec 4

/-- FREE VALUE. `shadeColour shade`: the colour the renderer is given for a DMG shade, the OPEN parameter of
00_scope.md R8 (60_exceptions.md R464; 93_implementation_defined.md I10; log 4). -/
opaque shadeColour : BitVec 2 → Rgba

end Sys2Proof.Config
end

