-- ==== Sys2Proof/Machine/State.lean ====
section
/-! DEFINITION. The machine's state as plain data (10_state.md), the reasons a step can stop, and the state after reset
(10_state.md R44, R55; 70_reset_and_hazards.md R500). INVENTORY.md lists every field with its rule. -/

namespace Sys2Proof.Machine

/-- Why a step answers no next state. -/
inductive Fault where
  /-- Raised by `step`, and only by it, when `fault` already records an IllegalOpcode (60_exceptions.md R401, R410 line 1:
  "no further step"). The step that executes the illegal opcode is a next state in which the fault is recorded (log 9).
  Safe: the spec's machine has no further step either. -/
  | illegalOpcode (op : Byte) (addr : Word)
deriving DecidableEq, Repr

/-- What the model refuses. -/
inductive Refusal where
  /-- An instruction that has no meaning yet, by its mnemonic. Raised by no arm: every instruction has a meaning. Safe. -/
  | notModelled (mnemonic : String)
deriving DecidableEq, Repr

/-- The four flags, bits 7, 6, 5, 4 of F (R23). Bits 3..0 of F have no storage: they always read 0 (R22; log 10). -/
structure Flags where
  z  : Bool
  n  : Bool
  hf : Bool
  cy : Bool
deriving DecidableEq, Repr

/-- The register file (R20 to R26). -/
structure Regs where
  a     : Byte
  b     : Byte
  c     : Byte
  d     : Byte
  e     : Byte
  h     : Byte
  l     : Byte
  flags : Flags
  sp    : Word
  pc    : Word
deriving DecidableEq, Repr

/-- The record of the fatal error (R30): the opcode byte and the address it was fetched from. -/
structure IllegalOpcode where
  op   : Byte
  addr : Word
deriving DecidableEq, Repr

/-- The CPU's control state (R27 to R31), the number of clock cycles the last step returned (60_exceptions.md R410; log
6), and, the model's own, whether the CPU was halted when the host paused it (log 8). -/
structure Control where
  halted       : Bool
  stopped      : Bool
  ime          : Bool
  eiDelay      : Fin 3
  fault        : Option IllegalOpcode
  inBios       : Bool
  cycles       : Nat
  pausedHalted : Bool
deriving DecidableEq, Repr

/-- The interrupt controller's two 5-bit registers, bit i for interrupt i of 60_exceptions.md R420 (R33). `iflag` is
IF. -/
structure Irq where
  ie    : BitVec 5
  iflag : BitVec 5
deriving DecidableEq, Repr

/-- The timer: its registers (R34) and its two accumulators (R39). -/
structure Timer where
  div     : Byte
  tima    : Byte
  tma     : Byte
  tac     : Byte
  divAcc  : Nat
  timaAcc : Nat
deriving DecidableEq, Repr

/-- The four PPU modes (R36). -/
inductive PpuMode where
  | hBlank | vBlank | readOAM | readVRAM
deriving DecidableEq, Repr

/-- The PPU: its registers (R32, R35) and its internal state (R40). STAT is kept as its fields: `statEnable` is STAT
bits 6..3 (its bit 0 is STAT bit 3), `coincidence` STAT bit 2, `mode` STAT bits 1..0 (20_memory.md R101; log 10). -/
structure Ppu where
  lcdc        : Byte
  statEnable  : BitVec 4
  coincidence : Bool
  mode        : PpuMode
  scy         : Byte
  scx         : Byte
  ly          : Byte
  lyc         : Byte
  bgp         : Byte
  obp0        : Byte
  obp1        : Byte
  wy          : Byte
  wx          : Byte
  modeClock   : Nat
  lcdWasOff   : Bool
deriving DecidableEq, Repr

/-- The MBC's registers (R38). The MBC type is a function of the ROM header (20_memory.md R84). -/
structure Mbc where
  romBank     : BitVec 5
  ramBank     : BitVec 2
  ramEnable   : Bool
  bankingMode : Bool
deriving DecidableEq, Repr

/-- Bytes by key: keys strictly rising, no entry equal to what an unlisted key reads as (Machine/Memory.lean). -/
abbrev Memory := List Host.Cell

/-- A loaded image: a sequence of `size` bytes, those that are not 0x00 listed by offset (log 1). -/
structure Image where
  size  : Nat
  cells : Memory
deriving DecidableEq, Repr

/-- The loaded images (00_scope.md R8, R16): parameters of the spec's machine, data of this model's state that no step
changes (log 1). -/
structure Cartridge where
  rom  : Image
  bios : Option Image
deriving DecidableEq, Repr

/-- One call of the renderer sink (60_exceptions.md R466). The colour is kept as its DMG shade: the sink receives
`Config.shadeColour shade` (R464; log 4). -/
inductive SinkCall where
  | setPixel (x y : Nat) (shade : BitVec 2)
  | draw
deriving DecidableEq, Repr

/-- The machine. `mem` holds VRAM, work RAM, OAM, high RAM and the plain I/O cells by address and the cartridge RAM
above them (Machine/Bus.lean); `joypSelect` is JOYP bits 5..4; `sink` is the machine's output, oldest call first.
`ramDraw` and `hostDraw` are the model's own counters, which number the free values (log 2, log 3). -/
structure State where
  regs       : Regs
  ctl        : Control
  irq        : Irq
  timer      : Timer
  ppu        : Ppu
  mbc        : Mbc
  joypSelect : BitVec 2
  mem        : Memory
  cart       : Cartridge
  sink       : List SinkCall
  ramDraw    : Nat
  hostDraw   : Nat
deriving DecidableEq, Repr

/-- The outcome of a step or of an instruction. -/
abbrev Result := Host.Outcome State Fault Refusal

/-- The CPU registers after a reset with a BIOS (R44). -/
def Regs.withBios : Regs :=
  { a := 0x00, b := 0x00, c := 0x00, d := 0x00, e := 0x00, h := 0x00, l := 0x00,
    flags := { z := false, n := false, hf := false, cy := false }, sp := 0x0000, pc := 0x0000 }

/-- The CPU registers after a reset without a BIOS, the `postBiosRegs` of 00_scope.md R8 (R44). -/
def Regs.skipBios : Regs :=
  { a := 0x01, b := 0x00, c := 0x13, d := 0x00, e := 0xD8, h := 0x01, l := 0x4D,
    flags := { z := true, n := false, hf := true, cy := true }, sp := 0xFFFE, pc := 0x0100 }

/-- The state after a reset of a machine with the given images loaded (70_reset_and_hazards.md R500; 10_state.md R55):
`bootMode` is withBios exactly when a BIOS image is present (00_scope.md R8). Unwritten RAM reads the `ramInit` draw
number `ramDraw`; the next read of the joypad lines is draw number `hostDraw`; no cycles have been returned (log 2, 3, 6). -/
def State.resetWith (cart : Cartridge) (ramDraw hostDraw : Nat) : State :=
  let bios := cart.bios.isSome
  { regs := if bios then Regs.withBios else Regs.skipBios
    ctl := { halted := false, stopped := false, ime := false, eiDelay := 0, fault := none, inBios := bios, cycles := 0
             pausedHalted := false }
    irq := { ie := 0, iflag := 0 }
    timer := { div := 0, tima := 0, tma := 0, tac := 0, divAcc := 0, timaAcc := 0 }
    ppu := { lcdc := if bios then 0x00 else 0x91, statEnable := 0, coincidence := false, mode := .readOAM, scy := 0, scx := 0,
             ly := 0, lyc := 0, bgp := if bios then 0x00 else 0xFC, obp0 := 0, obp1 := 0, wy := 0, wx := 0, modeClock := 0,
             lcdWasOff := false }
    mbc := { romBank := 1, ramBank := 0, ramEnable := false, bankingMode := false }
    joypSelect := 0
    mem := []
    cart := cart
    sink := []
    ramDraw := ramDraw
    hostDraw := hostDraw }

/-- No image at all: an empty ROM and no BIOS (log 1). -/
def Cartridge.empty : Cartridge := { rom := { size := 0, cells := [] }, bios := none }

/-- The machine right after power-on, before any image is loaded: the skipBios reset state with an empty ROM, so that a
fetch from ROM reads `openBusValue` (70_reset_and_hazards.md R503; log 1). -/
def State.reset : State := State.resetWith Cartridge.empty 0 0

end Sys2Proof.Machine
end

