-- ==== Sys2Proof/Machine/Memory.lean ====
section
/-! DEFINITION. The list of bytes by key behind every memory array, in ONE canonical form, and the loaded images.

What an unlisted key reads as is a function `Nat → Option Byte`: `some v` is a fixed byte, `none` is no byte at all, for
which the reader supplies the free value (log 2). -/

namespace Sys2Proof.Machine

/-- The byte listed at `key`. -/
def Memory.lookup : Memory → Nat → Option Byte
  | [], _ => none
  | (k, v) :: rest, key => if k = key then some v else Memory.lookup rest key

/-- List `v` at `key`, in its place. -/
def Memory.insert : Memory → Nat → Byte → Memory
  | [], key, v => [(key, v)]
  | (k, w) :: rest, key, v =>
    if key < k then (key, v) :: (k, w) :: rest
    else if key = k then (key, v) :: rest
    else (k, w) :: Memory.insert rest key v

/-- List nothing at `key`. -/
def Memory.erase : Memory → Nat → Memory
  | [], _ => []
  | (k, w) :: rest, key => if k = key then Memory.erase rest key else (k, w) :: Memory.erase rest key

/-- Store `v` at `key`: a byte equal to what the unlisted key reads as is not listed. -/
def Memory.write (unlisted : Nat → Option Byte) (m : Memory) (key : Nat) (v : Byte) : Memory :=
  if unlisted key = some v then m.erase key else m.insert key v

/-- The byte at `key`, `none` where nothing is listed and an unlisted key has no fixed byte. -/
def Memory.read (unlisted : Nat → Option Byte) (m : Memory) (key : Nat) : Option Byte :=
  match m.lookup key with
  | some v => some v
  | none => unlisted key

/-- The keys rise strictly. -/
def Memory.rising : Memory → Bool
  | [] => true
  | (k, _) :: rest => rest.all (fun cell => decide (k < cell.1)) && Memory.rising rest

/-- The canonical form: keys strictly rising, and no entry equal to what its key reads as when unlisted. -/
def Memory.wf (unlisted : Nat → Option Byte) (m : Memory) : Bool :=
  m.rising && m.all (fun cell => decide (unlisted cell.1 ≠ some cell.2))

/-- An unlisted byte of an image is 0x00 (log 1). -/
def Image.unlisted : Nat → Option Byte := fun _ => some 0x00

/-- The byte at offset `i` of an image, `none` at and beyond its length. -/
def Image.byte? (img : Image) (i : Nat) : Option Byte :=
  if i < img.size then Memory.read Image.unlisted img.cells i else none

/-- The image with the byte at offset `i` set, made long enough to hold it. Loading only: no step writes an image. -/
def Image.set (img : Image) (i : Nat) (v : Byte) : Image :=
  { size := max img.size (i + 1), cells := Memory.write Image.unlisted img.cells i v }

/-- The non-zero bytes of a byte sequence, by offset from `i`. -/
def Image.cellsFrom : List Byte → Nat → Memory
  | [], _ => []
  | v :: rest, i => if v = 0x00 then Image.cellsFrom rest (i + 1) else (i, v) :: Image.cellsFrom rest (i + 1)

/-- The image of a byte sequence (70_reset_and_hazards.md R503: "accepts a byte sequence (ROM)"). -/
def Image.ofBytes (bytes : List Byte) : Image := { size := bytes.length, cells := Image.cellsFrom bytes 0 }

end Sys2Proof.Machine
end

