-- ==== Sys2Proof/Machine/Bus.lean ====
section
/-! DEFINITION. The memory bus (20_memory.md): the cartridge's configuration, the storage each address selects, and the
one-byte reads and writes every access is made of (R71). -/

namespace Sys2Proof.Machine

/-! ## Cartridge configuration (R84 to R86) -/

/-- "0 = none, 1 = MBC1" (10_state.md R38). -/
inductive MbcType where
  | mbc0 | mbc1
deriving DecidableEq, Repr

/-- A header byte of the ROM; one beyond the image reads 0x00 (R84). -/
def Cartridge.headerByte (c : Cartridge) (off : Nat) : Byte :=
  match c.rom.byte? off with
  | some v => v
  | none => 0x00

/-- The MBC type: 0x01 to 0x03 are MBC1, every other type is mapped as no MBC (R84, R86). -/
def Cartridge.mbcType (c : Cartridge) : MbcType :=
  let t := c.headerByte 0x147
  if t = 0x01 ∨ t = 0x02 ∨ t = 0x03 then .mbc1 else .mbc0

/-- The number of 16 KiB ROM banks (R85). -/
def Cartridge.romBankCount (c : Cartridge) : Nat :=
  let code := (c.headerByte 0x148).toNat
  if code ≤ 8 then 2 * 2 ^ code else max 2 ((c.rom.size + 0x3FFF) / 0x4000)

/-- The cartridge RAM's size in bytes (R85). -/
def Cartridge.ramSize (c : Cartridge) : Nat :=
  match (c.headerByte 0x149).toNat with
  | 1 => 0x800
  | 2 => 0x2000
  | 3 => 0x8000
  | 4 => 0x20000
  | 5 => 0x10000
  | _ => 0

/-- The non-fatal diagnostics of a load (60_exceptions.md R402): a side channel, no part of the state. -/
inductive Diagnostic where
  | unsupportedMbc
  | assertionViolation
deriving DecidableEq, Repr

/-- Which diagnostics loading this cartridge reports (60_exceptions.md R402; 20_memory.md R84). R402 does not say how a
size code disagrees with the image length. DESIGN CHOICE (log 17): it does when `romBankCount` whole banks are not the
image's length; for a code above 8, which declares no size, that reports only an image that is not whole banks or is below
two of them. -/
def Cartridge.diagnostics (c : Cartridge) : List Diagnostic :=
  let t := (c.headerByte 0x147).toNat
  let supported := decide (t ∈ [0x00, 0x01, 0x02, 0x03, 0x08, 0x09])
  let sizeDisagrees := decide (c.romBankCount * 0x4000 ≠ c.rom.size)
  let tooLarge := decide (c.mbcType = .mbc0 ∧ c.rom.size > 0x8000)
  (if supported then [] else [.unsupportedMbc]) ++ (if sizeDisagrees || tooLarge then [.assertionViolation] else [])

/-! ## What an address selects -/

/-- The registers of the I/O window and IE (10_state.md R32). -/
inductive IoReg where
  | joyp | div | tima | tma | tac | iflag | lcdc | stat | scy | scx | ly | lyc | bgp | obp0 | obp1 | wy | wx | ie
deriving DecidableEq, Repr

/-- The register at an address of the I/O window; an address that names none is a plain cell (10_state.md R32, R37). -/
def ioReg? : Nat → Option IoReg
  | 0xFF00 => some .joyp
  | 0xFF04 => some .div
  | 0xFF05 => some .tima
  | 0xFF06 => some .tma
  | 0xFF07 => some .tac
  | 0xFF0F => some .iflag
  | 0xFF40 => some .lcdc
  | 0xFF41 => some .stat
  | 0xFF42 => some .scy
  | 0xFF43 => some .scx
  | 0xFF44 => some .ly
  | 0xFF45 => some .lyc
  | 0xFF47 => some .bgp
  | 0xFF48 => some .obp0
  | 0xFF49 => some .obp1
  | 0xFF4A => some .wy
  | 0xFF4B => some .wx
  | _ => none

/-- The storage behind an address: a byte of an image, a cell of `State.mem`, a register, or nothing. -/
inductive Target where
  | bios (off : Nat)
  | rom (off : Nat)
  | cell (key : Nat)
  | reg (r : IoReg)
  | openBus
deriving DecidableEq, Repr

/-- The key of cartridge RAM offset 0: above every CPU address. -/
def cartRamBase : Nat := 0x10000

/-- `mbc1LowBank`: the bank behind 0x0000-0x3FFF (R92). -/
def Mbc.lowBank (m : Mbc) : Nat := if m.bankingMode then m.ramBank.toNat * 32 else 0

/-- `mbc1HighBank`: the bank behind 0x4000-0x7FFF (R92). -/
def Mbc.highBank (m : Mbc) : Nat := m.ramBank.toNat * 32 + m.romBank.toNat

/-- `ramBankEff` (R93). -/
def Mbc.ramBankEff (m : Mbc) : Nat := if m.bankingMode then m.ramBank.toNat else 0

/-- The image offset of `romByte(bank, off)` (R87): a bank beyond the cartridge is reduced modulo the bank count. -/
def Cartridge.romOffset (c : Cartridge) (bank off : Nat) : Nat := (bank % c.romBankCount) * 0x4000 + off

/-- The bank behind 0x0000-0x3FFF (R78). -/
def State.lowBank (s : State) : Nat := if s.cart.mbcType = .mbc1 then s.mbc.lowBank else 0

/-- The bank behind 0x4000-0x7FFF (R79). -/
def State.highBank (s : State) : Nat := if s.cart.mbcType = .mbc1 then s.mbc.highBank else 1

/-- Cartridge RAM can be accessed (R82). -/
def State.ramUsable (s : State) : Bool :=
  decide (0 < s.cart.ramSize) && (decide (s.cart.mbcType = .mbc0) || s.mbc.ramEnable)

/-- The cartridge RAM offset of an address of 0xA000-0xBFFF (R82). -/
def State.ramOffset (s : State) (n : Nat) : Nat :=
  ((if s.cart.mbcType = .mbc1 then s.mbc.ramBankEff else 0) * 0x2000 + (n - 0xA000)) % s.cart.ramSize

/-- The BIOS serves this read (R76): the flag is set, PC is below 0x100 at this moment, and so is the address. -/
def State.overlaid (s : State) (n : Nat) : Bool :=
  s.ctl.inBios && decide (s.regs.pc.toNat < 0x100) && decide (n < 0x100)

/-- The storage behind address number `n` (R70, R76 to R104). -/
def State.locateNat (s : State) (n : Nat) : Target :=
  if n < 0x4000 then
    if s.overlaid n then .bios n else .rom (s.cart.romOffset s.lowBank n)
  else if n < 0x8000 then .rom (s.cart.romOffset s.highBank (n - 0x4000))
  else if n < 0xA000 then .cell n
  else if n < 0xC000 then if s.ramUsable then .cell (cartRamBase + s.ramOffset n) else .openBus
  else if n < 0xE000 then .cell n
  else if n < 0xFE00 then .cell (n - 0x2000)
  else if n < 0xFEA0 then .cell n
  else if n < 0xFF00 then .openBus
  else if n = 0xFFFF then .reg .ie
  else match ioReg? n with
    | some r => .reg r
    | none => .cell n

/-- The storage the address selects. -/
def State.locate (s : State) (addr : Word) : Target := s.locateNat addr.toNat

/-! ## Cells -/

/-- What an unlisted cell reads as: a plain I/O cell 0x00 (10_state.md R37), a RAM cell no fixed byte (R41). -/
def unlistedCell (key : Nat) : Option Byte := if 0xFF00 ≤ key ∧ key < 0xFF80 then some 0x00 else none

/-- The byte in a cell: a RAM cell that nothing has been written to since the reset reads the `ramInit` draw (log 2). -/
def State.cell (s : State) (key : Nat) : Byte :=
  match Memory.read unlistedCell s.mem key with
  | some v => v
  | none => Config.ramInit s.ramDraw key

/-- Store a byte in a cell. -/
def State.setCell (s : State) (key : Nat) (v : Byte) : State :=
  { s with mem := Memory.write unlistedCell s.mem key v }

/-! ## Registers of the I/O window -/

/-- The mode field of STAT (10_state.md R36). -/
def PpuMode.code : PpuMode → BitVec 2
  | .hBlank => 0
  | .vBlank => 1
  | .readOAM => 2
  | .readVRAM => 3

/-- What a read of STAT returns: bit 7 is 1, then the enables, the coincidence flag and the mode (R101). -/
def Ppu.stat (p : Ppu) : Byte := 1#1 ++ p.statEnable ++ BitVec.ofBool p.coincidence ++ p.mode.code

/-- A read of a register (R98 to R104). -/
def State.readReg (s : State) : IoReg → Byte
  | .joyp => 3#2 ++ s.joypSelect ++ Config.joypadLow s.hostDraw s.joypSelect
  | .div => s.timer.div
  | .tima => s.timer.tima
  | .tma => s.timer.tma
  | .tac => s.timer.tac
  | .iflag => 7#3 ++ s.irq.iflag
  | .lcdc => s.ppu.lcdc
  | .stat => s.ppu.stat
  | .scy => s.ppu.scy
  | .scx => s.ppu.scx
  | .ly => s.ppu.ly
  | .lyc => s.ppu.lyc
  | .bgp => s.ppu.bgp
  | .obp0 => s.ppu.obp0
  | .obp1 => s.ppu.obp1
  | .wy => s.ppu.wy
  | .wx => s.ppu.wx
  | .ie => 0#3 ++ s.irq.ie

/-- A write of a register (R98 to R104): JOYP keeps bits 5..4, DIV is cleared with its accumulator, IF and IE keep bits
4..0, STAT keeps bits 6..3, LY is cleared, the others store the byte. -/
def State.writeReg (s : State) (r : IoReg) (v : Byte) : State :=
  match r with
  | .joyp => { s with joypSelect := v.extractLsb' 4 2 }
  | .div => { s with timer := { s.timer with div := 0, divAcc := 0 } }
  | .tima => { s with timer := { s.timer with tima := v } }
  | .tma => { s with timer := { s.timer with tma := v } }
  | .tac => { s with timer := { s.timer with tac := v } }
  | .iflag => { s with irq := { s.irq with iflag := v.setWidth 5 } }
  | .lcdc => { s with ppu := { s.ppu with lcdc := v } }
  | .stat => { s with ppu := { s.ppu with statEnable := v.extractLsb' 3 4 } }
  | .scy => { s with ppu := { s.ppu with scy := v } }
  | .scx => { s with ppu := { s.ppu with scx := v } }
  | .ly => { s with ppu := { s.ppu with ly := 0 } }
  | .lyc => { s with ppu := { s.ppu with lyc := v } }
  | .bgp => { s with ppu := { s.ppu with bgp := v } }
  | .obp0 => { s with ppu := { s.ppu with obp0 := v } }
  | .obp1 => { s with ppu := { s.ppu with obp1 := v } }
  | .wy => { s with ppu := { s.ppu with wy := v } }
  | .wx => { s with ppu := { s.ppu with wx := v } }
  | .ie => { s with irq := { s.irq with ie := v.setWidth 5 } }

/-! ## The MBC's control registers -/

/-- An MBC1 control write at an address below 0x8000 (R88 to R91). -/
def Mbc.control (m : Mbc) (n : Nat) (v : Byte) : Mbc :=
  if n < 0x2000 then { m with ramEnable := decide (v &&& 0x0F = 0x0A) }
  else if n < 0x4000 then
    let bank := v.setWidth 5
    { m with romBank := if bank = 0 then 1 else bank }
  else if n < 0x6000 then { m with ramBank := v.setWidth 2 }
  else { m with bankingMode := v.getLsbD 0 }

/-- A write below 0x8000: never ROM; an MBC control write for MBC1, nothing for no MBC (R80). -/
def State.writeControl (s : State) (n : Nat) (v : Byte) : State :=
  match s.cart.mbcType with
  | .mbc0 => s
  | .mbc1 => { s with mbc := s.mbc.control n v }

/-! ## The bus contract -/

/-- The byte an access of this storage reads. Bytes an image lacks, and addresses nothing serves, read `openBusValue`
(R76, R87, R82, R96). -/
def State.readTarget (s : State) : Target → Byte
  | .bios off => ((s.cart.bios.bind (·.byte? off)).getD Config.openBusValue)
  | .rom off => (s.cart.rom.byte? off).getD Config.openBusValue
  | .cell key => s.cell key
  | .reg r => s.readReg r
  | .openBus => Config.openBusValue

/-- `MemRead(addr, 1)` (R71). A read changes no state (R105). -/
def State.memRead (s : State) (addr : Word) : Byte := s.readTarget (s.locate addr)

/-- The effect of a write on this storage: images and unserved addresses take none. -/
def State.writeTarget (s : State) (t : Target) (v : Byte) : State :=
  match t with
  | .cell key => s.setCell key v
  | .reg r => s.writeReg r v
  | .bios _ => s
  | .rom _ => s
  | .openBus => s

/-- `MemWrite(addr, 1, v)` (R71, R80). -/
def State.memWrite (s : State) (addr : Word) (v : Byte) : State :=
  if addr.toNat < 0x8000 then s.writeControl addr.toNat v else s.writeTarget (s.locate addr) v

/-- `MemRead(addr, 2)`: the low byte at the address, the high byte at the next (R72). -/
def State.memRead16 (s : State) (addr : Word) : Word := joinBytes (s.memRead (addr + 1)) (s.memRead addr)

/-- `MemWrite(addr, 2, v)`: the low byte is written first (R72). -/
def State.memWrite16 (s : State) (addr : Word) (v : Word) : State :=
  (s.memWrite addr (lowByte v)).memWrite (addr + 1) (highByte v)

end Sys2Proof.Machine
end

