-- ==== Sys2Proof/Machine/Flags.lean ====
section
/-! DEFINITION. The F register as a byte (10_state.md R22, R23), and every result-with-flags computation of the
instruction rules. Sums and comparisons are taken on natural numbers, as the rules take them "as integers"; the result is
narrowed to its register. -/

namespace Sys2Proof.Machine

/-- F as a byte: Z, N, H, CY in bits 7..4; "bits 0-3 always read as 0" (R22). -/
def Flags.toByte (f : Flags) : Byte :=
  BitVec.ofBool f.z ++ BitVec.ofBool f.n ++ BitVec.ofBool f.hf ++ BitVec.ofBool f.cy ++ 0#4

/-- What a write of F stores: `v & 0xF0` (R22). -/
def Flags.ofByte (v : Byte) : Flags :=
  { z := v.getLsbD 7, n := v.getLsbD 6, hf := v.getLsbD 5, cy := v.getLsbD 4 }

/-- The carry flag as the number 0 or 1. -/
def Flags.carry (f : Flags) : Nat := f.cy.toNat

/-- `add8(a, b, c)` (43_alu8.md R250). -/
def add8 (a b : Byte) (c : Nat) : Byte × Flags :=
  let res := BitVec.ofNat 8 (a.toNat + b.toNat + c)
  (res, { z := decide (res = 0), n := false
          hf := decide (a.toNat % 16 + b.toNat % 16 + c > 0x0F)
          cy := decide (a.toNat + b.toNat + c > 0xFF) })

/-- `sub8(a, b, c)` (43_alu8.md R251). -/
def sub8 (a b : Byte) (c : Nat) : Byte × Flags :=
  let res := BitVec.ofInt 8 ((a.toNat : Int) - b.toNat - c)
  (res, { z := decide (res = 0), n := true
          hf := decide (a.toNat % 16 < b.toNat % 16 + c)
          cy := decide (a.toNat < b.toNat + c) })

/-- The flags of AND (`h` true), XOR and OR (`h` false) for the result `res` (R265 to R273). -/
def logicFlags (res : Byte) (h : Bool) : Flags := { z := decide (res = 0), n := false, hf := h, cy := false }

/-- The value A takes and the flags of ALU operation `o` on A, the operand `v` and the old flags (R253 to R276). CP keeps
A. -/
def alu8 (o : AluOp) (a v : Byte) (f : Flags) : Byte × Flags :=
  match o with
  | .add => add8 a v 0
  | .adc => add8 a v f.carry
  | .sub => sub8 a v 0
  | .sbc => sub8 a v f.carry
  | .and => (a &&& v, logicFlags (a &&& v) true)
  | .xor => (a ^^^ v, logicFlags (a ^^^ v) false)
  | .or => (a ||| v, logicFlags (a ||| v) false)
  | .cp => (a, (sub8 a v 0).2)

/-- INC of a byte: CY is kept (R277, R278). -/
def inc8 (old : Byte) (f : Flags) : Byte × Flags :=
  let new := old + 1
  (new, { f with z := decide (new = 0), n := false, hf := decide (old &&& 0x0F = 0x0F) })

/-- DEC of a byte: CY is kept (R279, R280). -/
def dec8 (old : Byte) (f : Flags) : Byte × Flags :=
  let new := old - 1
  (new, { f with z := decide (new = 0), n := true, hf := decide (old &&& 0x0F = 0x00) })

/-- DAA (R281): the corrections are decided on the A and the flags from before. -/
def daa8 (a : Byte) (f : Flags) : Byte × Flags :=
  let high := if f.n then f.cy else f.cy || decide (a.toNat > 0x99)
  let low := if f.n then f.hf else f.hf || decide ((a &&& 0x0F).toNat > 0x09)
  let correction : Byte := (if high then 0x60 else 0x00) + (if low then 0x06 else 0x00)
  let res := if f.n then a - correction else a + correction
  (res, { z := decide (res = 0), n := f.n, hf := false, cy := high })

/-- The rotates of A (R300 to R303): result and carry-out. -/
def rotate8 (o : RotateOp) (v : Byte) (cy : Bool) : Byte × Bool :=
  match o with
  | .rlc => ((v <<< 1) ||| (BitVec.ofBool (v.getLsbD 7)).setWidth 8, v.getLsbD 7)
  | .rrc => ((v >>> 1) ||| ((BitVec.ofBool (v.getLsbD 0)).setWidth 8 <<< 7), v.getLsbD 0)
  | .rl => ((v <<< 1) ||| (BitVec.ofBool cy).setWidth 8, v.getLsbD 7)
  | .rr => ((v >>> 1) ||| ((BitVec.ofBool cy).setWidth 8 <<< 7), v.getLsbD 0)

/-- The CB shift functions (R304): result and carry-out. -/
def shift8 (o : ShiftOp) (v : Byte) (cy : Bool) : Byte × Bool :=
  match o with
  | .rlc => rotate8 .rlc v cy
  | .rrc => rotate8 .rrc v cy
  | .rl => rotate8 .rl v cy
  | .rr => rotate8 .rr v cy
  | .sla => (v <<< 1, v.getLsbD 7)
  | .sra => ((v >>> 1) ||| (v &&& 0x80), v.getLsbD 0)
  | .swap => (((v &&& 0x0F) <<< 4) ||| (v >>> 4), false)
  | .srl => (v >>> 1, v.getLsbD 0)

/-- The flags of an unprefixed rotate: Z is 0 whatever the result (R300 to R303). -/
def rotateFlags (carryOut : Bool) : Flags := { z := false, n := false, hf := false, cy := carryOut }

/-- The flags of a CB shift (R304). -/
def shiftFlags (res : Byte) (carryOut : Bool) : Flags :=
  { z := decide (res = 0), n := false, hf := false, cy := carryOut }

/-- The flags of BIT: Z is the complement of the tested bit, CY is kept (R321, R322). -/
def bitFlags (v : Byte) (b : Fin 8) (f : Flags) : Flags := { f with z := !v.getLsbD b.val, n := false, hf := true }

/-- ADD HL,rr (44_alu16.md R290): Z is kept, H is the carry out of bit 11, CY out of bit 15. -/
def add16 (a b : Word) (f : Flags) : Word × Flags :=
  (a + b, { f with n := false
                   hf := decide (a.toNat % 0x1000 + b.toNat % 0x1000 > 0x0FFF)
                   cy := decide (a.toNat + b.toNat > 0xFFFF) })

/-- `SP + sext_16(e)` with the flags of LD HL,SP+e and ADD SP,e: the carries are those of SP's low byte and the byte e
(42_load16.md R235; 44_alu16.md R293). -/
def addSigned (sp : Word) (e : Byte) : Word × Flags :=
  (sp + e.signExtend 16, { z := false, n := false
                           hf := decide (sp.toNat % 16 + e.toNat % 16 > 0x0F)
                           cy := decide (sp.toNat % 256 + e.toNat > 0xFF) })

end Sys2Proof.Machine
end

