-- ==== Sys2Proof/Machine/Operands.lean ====
section
/-! DEFINITION. The operand forms (30_encoding.md R136 to R139): registers, pairs and conditions, read and written. -/

namespace Sys2Proof.Machine

/-- Read the register a field names (R136). -/
def Regs.r8 (g : Regs) : R8 → Byte
  | .a => g.a
  | .b => g.b
  | .c => g.c
  | .d => g.d
  | .e => g.e
  | .h => g.h
  | .l => g.l

/-- Write the register a field names. -/
def Regs.setR8 (g : Regs) (r : R8) (v : Byte) : Regs :=
  match r with
  | .a => { g with a := v }
  | .b => { g with b := v }
  | .c => { g with c := v }
  | .d => { g with d := v }
  | .e => { g with e := v }
  | .h => { g with h := v }
  | .l => { g with l := v }

/-- BC, DE, HL and AF, the first-named register in the high byte (10_state.md R21). -/
def Regs.bc (g : Regs) : Word := joinBytes g.b g.c
/-- See `Regs.bc`. -/
def Regs.de (g : Regs) : Word := joinBytes g.d g.e
/-- See `Regs.bc`. -/
def Regs.hl (g : Regs) : Word := joinBytes g.h g.l
/-- See `Regs.bc`; F as R22 reads it. -/
def Regs.af (g : Regs) : Word := joinBytes g.a g.flags.toByte

/-- Write HL: `H <- v[15:8]; L <- v[7:0]` (10_state.md R21). -/
def Regs.setHl (g : Regs) (v : Word) : Regs := { g with h := highByte v, l := lowByte v }

/-- Read the pair `rr` (R137). -/
def Regs.pair (g : Regs) : Pair → Word
  | .bc => g.bc
  | .de => g.de
  | .hl => g.hl
  | .sp => g.sp

/-- Write the pair `rr`. -/
def Regs.setPair (g : Regs) (p : Pair) (v : Word) : Regs :=
  match p with
  | .bc => { g with b := highByte v, c := lowByte v }
  | .de => { g with d := highByte v, e := lowByte v }
  | .hl => g.setHl v
  | .sp => { g with sp := v }

/-- Read the pair `qq` (R137). -/
def Regs.stackPair (g : Regs) : StackPair → Word
  | .bc => g.bc
  | .de => g.de
  | .hl => g.hl
  | .af => g.af

/-- Write the pair `qq`; a write of AF keeps bits 7..4 of F (10_state.md R22; 42_load16.md R234). -/
def Regs.setStackPair (g : Regs) (p : StackPair) (v : Word) : Regs :=
  match p with
  | .bc => { g with b := highByte v, c := lowByte v }
  | .de => { g with d := highByte v, e := lowByte v }
  | .hl => g.setHl v
  | .af => { g with a := highByte v, flags := Flags.ofByte (lowByte v) }

/-- Read the pair an indirect accumulator load or store addresses with. -/
def Regs.indirectPair (g : Regs) : IndirectPair → Word
  | .bc => g.bc
  | .de => g.de

/-- `cond(cc)` (R138). -/
def Flags.holds (f : Flags) : Cond → Bool
  | .nz => !f.z
  | .z => f.z
  | .nc => !f.cy
  | .c => f.cy

/-- The restart target of the field `t`: `t * 8` (R139). -/
def restartTarget (t : Fin 8) : Word := BitVec.ofNat 16 (8 * t.val)

/-- The address of an LDH operand: `0xFF00 + n` (R133). -/
def ioAddress (n : Byte) : Word := 0xFF00 + n.setWidth 16

/-- The byte with bit `b` alone set, `1 << b` (45_rotate_shift_bit.md R323 to R326). -/
def bitMask (b : Fin 8) : Byte := 1 <<< b.val

/-! ## The same on the machine's state -/

/-- Put a register file in place. -/
def State.setRegs (s : State) (g : Regs) : State := { s with regs := g }

/-- The byte at HL, the operand of field value 6 (R136). -/
def State.atHL (s : State) : Byte := s.memRead s.regs.hl

/-- Write the byte at HL. -/
def State.setAtHL (s : State) (v : Byte) : State := s.memWrite s.regs.hl v

/-- `X <- v` for a register field. -/
def State.setR8 (s : State) (r : R8) (v : Byte) : State := s.setRegs (s.regs.setR8 r v)

/-- `A <- v`. -/
def State.setA (s : State) (v : Byte) : State := s.setRegs { s.regs with a := v }

/-- `HL <- v`. -/
def State.setHl (s : State) (v : Word) : State := s.setRegs (s.regs.setHl v)

/-- `SP <- v`. -/
def State.setSp (s : State) (v : Word) : State := s.setRegs { s.regs with sp := v }

/-- `PC <- v`. -/
def State.setPc (s : State) (v : Word) : State := s.setRegs { s.regs with pc := v }

/-- The four flags together. -/
def State.setFlags (s : State) (f : Flags) : State := s.setRegs { s.regs with flags := f }

/-- `rr <- v`. -/
def State.setPair (s : State) (p : Pair) (v : Word) : State := s.setRegs (s.regs.setPair p v)

end Sys2Proof.Machine
end

