-- ==== Sys2Proof/Machine/Ops.lean ====
section
/-! DEFINITION. The operations the instructions and the step share: fetching (30_encoding.md R131), the stack
(42_load16.md R233, R234), interrupt requests, TAKING AN INTERRUPT and returning from one (60_exceptions.md R421 to
R426), and the one synchronous exception (R401). -/

namespace Sys2Proof.Machine

/-- `cycles <- n`: the number of clock cycles the step returns (60_exceptions.md R410). -/
def State.took (s : State) (n : Nat) : State := { s with ctl := { s.ctl with cycles := n } }

/-- The instruction is complete, in `n` cycles. -/
def State.done (s : State) (n : Nat) : Result := .next (s.took n)

/-! ## Fetching -/

/-- `fetch8()`: the byte at PC, and PC past it (R131). -/
def State.fetch8 (s : State) : Byte × State := (s.memRead s.regs.pc, s.setPc (s.regs.pc + 1))

/-- `fetch16()`: low byte first (00_scope.md R11). -/
def State.fetch16 (s : State) : Word × State :=
  let lo := s.fetch8
  let hi := lo.2.fetch8
  (joinBytes hi.1 lo.1, hi.2)

/-- The byte a fetch from `addr` reads: PC is that address at the moment of the read (20_memory.md R76). -/
def State.codeByte (s : State) (addr : Word) : Byte := (s.setPc addr).memRead addr

/-- Fetch one instruction, its immediate or CB opcode with it: the instruction, and the state with PC past it
(60_exceptions.md R410 line 4; 30_encoding.md R131, R148). -/
def State.fetchInstr (s : State) : Instr × State :=
  let first := s.fetch8
  match opcodeForm first.1 with
  | .op i => (i, first.2)
  | .byte f =>
    let n := first.2.fetch8
    (f n.1, n.2)
  | .word f =>
    let nn := first.2.fetch16
    (f nn.1, nn.2)
  | .cb =>
    let second := first.2.fetch8
    (cbInstr second.1, second.2)

/-! ## The stack -/

/-- `push16(v)`: the high byte first, at the higher address; SP after both writes (R233). -/
def State.push16 (s : State) (v : Word) : State :=
  let t := s.regs.sp - 2
  ((s.memWrite (t + 1) (highByte v)).memWrite t (lowByte v)).setSp t

/-- The word `pop16()` returns: the low byte at SP, the high byte at SP + 1 (R234). -/
def State.stackTop (s : State) : Word := s.memRead16 s.regs.sp

/-- The state `pop16()` leaves: SP past the word (R234). -/
def State.popped (s : State) : State := s.setSp (s.regs.sp + 2)

/-! ## Interrupts -/

/-- The five sources (60_exceptions.md R420). -/
inductive Source where
  | vblank | lcdStat | timer | serial | joypad
deriving DecidableEq, Repr

/-- The source's bit of IE and IF (R420). -/
def Source.bit : Source → Nat
  | .vblank => 0
  | .lcdStat => 1
  | .timer => 2
  | .serial => 3
  | .joypad => 4

/-- IE or IF with the source's bit alone set. -/
def Source.mask (i : Source) : BitVec 5 := 1 <<< i.bit

/-- The source's fixed vector, `0x40 + 8 * i` (R420). -/
def Source.vector (i : Source) : Word := BitVec.ofNat 16 (0x40 + 8 * i.bit)

/-- `requestInterrupt(i)`: `IF[i] <- 1` (R421). -/
def State.request (s : State) (i : Source) : State := { s with irq := { s.irq with iflag := s.irq.iflag ||| i.mask } }

/-- `IE & IF & 0x1F` (R410). -/
def State.pending (s : State) : BitVec 5 := s.irq.ie &&& s.irq.iflag

/-- The lowest-numbered bit that is set (R422). -/
def highestPriority (p : BitVec 5) : Option Source :=
  if p.getLsbD 0 then some .vblank
  else if p.getLsbD 1 then some .lcdStat
  else if p.getLsbD 2 then some .timer
  else if p.getLsbD 3 then some .serial
  else if p.getLsbD 4 then some .joypad
  else none

/-- `IME <- v`. -/
def State.setIme (s : State) (v : Bool) : State := { s with ctl := { s.ctl with ime := v } }

/-- TAKE AN INTERRUPT (R423), in the rule's order: IME cleared, the IF bit cleared, PC pushed, PC at the vector, Halted
cleared. Its 20 cycles are charged by the step (R410 line 7). -/
def State.takeInterrupt (s : State) (i : Source) : State :=
  let cleared := (s.setIme false)
  let acked := { cleared with irq := { cleared.irq with iflag := cleared.irq.iflag &&& ~~~i.mask } }
  let pushed := (acked.push16 acked.regs.pc).setPc i.vector
  { pushed with ctl := { pushed.ctl with halted := false } }

/-- RETURN FROM AN INTERRUPT (46_control.md R340; R426): `PC <- pop16(); IME <- 1; eiDelay <- 0`. -/
def State.returnFromInterrupt (s : State) : State :=
  let back := s.popped.setPc s.stackTop
  { back with ctl := { back.ctl with ime := true, eiDelay := 0 } }

/-! ## The one synchronous exception -/

/-- RAISE IllegalOpcode (60_exceptions.md R401; 47_cpu_control.md R355): the fault is recorded with the byte and the
address it was fetched from, and nothing else of the machine changes. `cycles` is 0: the step returns the fault instead
of a count (log 6, log 9). -/
def State.raiseIllegal (s : State) (op : Byte) : State :=
  { s with ctl := { s.ctl with fault := some { op := op, addr := s.regs.pc - 1 }, cycles := 0 } }

end Sys2Proof.Machine
end

