-- ==== Sys2Proof/Machine/Ppu.lean ====
section
/-! DEFINITION. The PPU: pixel resolution (60_exceptions.md R461 to R465), the scanline mode machine (R450 to R460) and
the renderer sink (R466, R467). Sprites are not drawn (R468). -/

namespace Sys2Proof.Machine

/-! ## Pixels -/

/-- A byte of VRAM, read directly and not through the CPU bus (R461). `addr` is its address, 0x8000 to 0x9FFF. -/
def State.vram (s : State) (addr : Nat) : Byte := s.cell addr

/-- The column lies in the window region of line `ly` (R462). `col >= WX - 7` is written with the 7 on the other side. -/
def Ppu.inWindow (p : Ppu) (ly col : Nat) : Bool :=
  p.lcdc.getLsbD 5 && decide (p.wy.toNat ≤ ly) && decide (p.wx.toNat ≤ col + 7)

/-- The tile map the pixel reads: LCDC bit 6 for the window, bit 3 for the background (R462). -/
def Ppu.mapBase (p : Ppu) (window : Bool) : Nat :=
  if p.lcdc.getLsbD (if window then 6 else 3) then 0x9C00 else 0x9800

/-- The pixel's row in its map (R462). -/
def Ppu.mapY (p : Ppu) (window : Bool) (ly : Nat) : Nat :=
  if window then ly - p.wy.toNat else (ly + p.scy.toNat) % 256

/-- The pixel's column in its map (R462). -/
def Ppu.mapX (p : Ppu) (window : Bool) (col : Nat) : Nat :=
  if window then col + 7 - p.wx.toNat else (col + p.scx.toNat) % 256

/-- The address of a tile's data: unsigned IDs from 0x8000, signed ones around 0x9000 (R463). -/
def Ppu.tileAddr (p : Ppu) (tileId : Byte) : Nat :=
  if p.lcdc.getLsbD 4 then 0x8000 + tileId.toNat * 16 else (0x9000 + tileId.toInt * 16).toNat

/-- The colour index of the pixel at (`x`, `y`) of the map at `mapBase` (R463). -/
def State.colourIndex (s : State) (mapBase x y : Nat) : Nat :=
  let tileId := s.vram (mapBase + (y / 8) * 32 + x / 8)
  let row := s.ppu.tileAddr tileId + (y % 8) * 2
  let bit := 7 - x % 8
  2 * ((s.vram (row + 1)).getLsbD bit).toNat + ((s.vram row).getLsbD bit).toNat

/-- The palette: the shade of a colour index (R464). -/
def Ppu.shade (p : Ppu) (ci : Nat) : BitVec 2 := (p.bgp >>> (2 * ci)).setWidth 2

/-- The shade of the pixel at column `col` of line `ly`: 0 while LCDC bit 0 is 0 (R461 to R464). -/
def State.pixelShade (s : State) (ly col : Nat) : BitVec 2 :=
  if s.ppu.lcdc.getLsbD 0 then
    let window := s.ppu.inWindow ly col
    s.ppu.shade (s.colourIndex (s.ppu.mapBase window) (s.ppu.mapX window col) (s.ppu.mapY window ly))
  else 0

/-- Call the sink. -/
def State.emit (s : State) (calls : List SinkCall) : State := { s with sink := s.sink ++ calls }

/-- Render line LY: one `setPixel` a column, in increasing column (R461). Only lines 0 to 143 are rendered (R465; log
12). -/
def State.renderLine (s : State) : State :=
  let ly := s.ppu.ly.toNat
  if ly < Config.screenHeight then
    s.emit ((List.range Config.screenWidth).map fun col => .setPixel col ly (s.pixelShade ly col))
  else s

/-- A call as the sink receives it, with the colour (R464, R466). -/
inductive RendererCall where
  | setPixel (x y : Nat) (colour : Rgba)
  | draw
deriving DecidableEq, Repr

/-- What the sink receives for a recorded call: `colour <- shadeColour(shade)` (R464). -/
def SinkCall.render : SinkCall → RendererCall
  | .setPixel x y shade => .setPixel x y (Config.shadeColour shade)
  | .draw => .draw

/-- The machine's output: the sequence of sink calls, in order (R466). -/
def State.rendererCalls (s : State) : List RendererCall := s.sink.map SinkCall.render

/-! ## The mode machine -/

/-- How many cycles a mode lasts (R453). -/
def PpuMode.threshold : PpuMode → Nat
  | .readOAM => 80
  | .readVRAM => 172
  | .hBlank => 204
  | .vBlank => 456

/-- The STAT enable bit of entering a mode, as a bit of `Ppu.statEnable`; readVRAM has none (R459). -/
def PpuMode.enableBit : PpuMode → Option Nat
  | .hBlank => some 0
  | .vBlank => some 1
  | .readOAM => some 2
  | .readVRAM => none

/-- Entering this mode requests lcdStat (R459). -/
def Ppu.entryEnabled (p : Ppu) (m : PpuMode) : Bool :=
  match m.enableBit with
  | some b => p.statEnable.getLsbD b
  | none => false

/-- Enter a mode: the mode field, and the lcdStat request if its enable bit is set (R459). -/
def State.enterMode (s : State) (m : PpuMode) : State :=
  let entered : State := { s with ppu := { s.ppu with mode := m } }
  if s.ppu.entryEnabled m then entered.request .lcdStat else entered

/-- `LY <- v`. -/
def State.setLy (s : State) (v : Byte) : State := { s with ppu := { s.ppu with ly := v } }

/-- One transition out of the current mode (R454 to R457). -/
def State.transition (s : State) : State :=
  match s.ppu.mode with
  | .readOAM => s.enterMode .readVRAM
  | .readVRAM => s.renderLine.enterMode .hBlank
  | .hBlank =>
    let next := s.setLy (s.ppu.ly + 1)
    if next.ppu.ly = 144 then ((next.request .vblank).enterMode .vBlank).emit [.draw]
    else next.enterMode .readOAM
  | .vBlank =>
    let next := s.setLy (s.ppu.ly + 1)
    if next.ppu.ly.toNat > 153 then (next.setLy 0).enterMode .readOAM else next

/-- `modeClock <- v`. -/
def State.setModeClock (s : State) (v : Nat) : State := { s with ppu := { s.ppu with modeClock := v } }

/-- The loop of R450: while the mode clock has reached the mode's threshold, subtract it and make the transition. Each
turn takes at least 80 off the clock, which bounds the turns. -/
def State.modeLoop : Nat → State → State
  | 0, s => s
  | turns + 1, s =>
    if s.ppu.modeClock < s.ppu.mode.threshold then s
    else State.modeLoop turns (s.setModeClock (s.ppu.modeClock - s.ppu.mode.threshold)).transition

/-- `coincidenceCheck()` (R460): `STAT[6]` is bit 3 of `statEnable`. -/
def State.coincidenceCheck (s : State) : State :=
  let new := decide (s.ppu.ly = s.ppu.lyc)
  let checked : State := { s with ppu := { s.ppu with coincidence := new } }
  if new && !s.ppu.coincidence && s.ppu.statEnable.getLsbD 3 then checked.request .lcdStat else checked

/-- The LCD is off: line 0, vBlank, clock 0, nothing rendered or requested (R451). -/
def State.lcdOff (s : State) : State :=
  { s with ppu := { s.ppu with ly := 0, modeClock := 0, mode := .vBlank, lcdWasOff := true } }

/-- The LCD is on again after an advance that found it off: readOAM at clock 0, as an entry into that mode (R452). -/
def State.lcdRestart (s : State) : State :=
  if s.ppu.lcdWasOff then
    State.enterMode { s with ppu := { s.ppu with lcdWasOff := false, modeClock := 0 } } .readOAM
  else s

/-- `ppu.advance(c)` (R450). -/
def State.advancePpu (s : State) (c : Nat) : State :=
  if s.ppu.lcdc.getLsbD 7 then
    let on := s.lcdRestart
    let fed := on.setModeClock (on.ppu.modeClock + c)
    (State.modeLoop (fed.ppu.modeClock / 80) fed).coincidenceCheck
  else s.lcdOff

end Sys2Proof.Machine
end

