-- ==== Sys2Proof/Machine/Timer.lean ====
section
/-! DEFINITION. The timer (60_exceptions.md R440 to R445). -/

namespace Sys2Proof.Machine

/-- DIV's part of an advance by `c` cycles: one increment for each 256 cycles accumulated, the remainder kept (R440,
R441). The rule's loop subtracts 256 until the accumulator is below it: that is the quotient and the remainder. -/
def Timer.advanceDiv (t : Timer) (c : Nat) : Timer :=
  { t with div := t.div + BitVec.ofNat 8 ((t.divAcc + c) / 256), divAcc := (t.divAcc + c) % 256 }

/-- TAC bit 2: the timer is enabled (10_state.md R34). -/
def Timer.enabled (t : Timer) : Bool := t.tac.getLsbD 2

/-- The cycles per tick that TAC bits 1..0 select (10_state.md R34; R442). -/
def Timer.period (t : Timer) : Nat :=
  match (t.tac.setWidth 2).toNat with
  | 0 => 1024
  | 1 => 16
  | 2 => 64
  | _ => 256

/-- One tick of TIMA: at 0xFF it reloads from TMA and requests the timer interrupt, else it increments (R440, R442). -/
def State.tickTima (s : State) : State :=
  if s.timer.tima = 0xFF then
    State.request { s with timer := { s.timer with tima := s.timer.tma } } .timer
  else { s with timer := { s.timer with tima := s.timer.tima + 1 } }

/-- `n` ticks, one after the other. -/
def State.tickTimes : Nat → State → State
  | 0, s => s
  | n + 1, s => State.tickTimes n s.tickTima

/-- TIMA's part of an advance: nothing while disabled; else a tick for each period accumulated, the remainder kept
(R440, R442, R443). -/
def State.advanceTima (s : State) (c : Nat) : State :=
  if s.timer.enabled then
    let acc := s.timer.timaAcc + c
    let n := s.timer.period
    State.tickTimes (acc / n) { s with timer := { s.timer with timaAcc := acc % n } }
  else s

/-- `timer.advance(c)` (R440). -/
def State.advanceTimer (s : State) (c : Nat) : State :=
  State.advanceTima { s with timer := s.timer.advanceDiv c } c

end Sys2Proof.Machine
end

