-- ==== Sys2Proof/Machine/Cycle.lean ====
section
/-! DEFINITION. The parts of a step around the instruction (60_exceptions.md R410), named by the lines of its
pseudocode. -/

namespace Sys2Proof.Machine

/-- Line 1: a stopped step does nothing and returns 0 cycles (R413). -/
def State.heldStep (s : State) : State := s.took 0

/-- Line 2: the BIOS overlay ends for good at the start of the first step with PC = 0x0100 (20_memory.md R77). -/
def State.leaveBios (s : State) : State :=
  if s.ctl.inBios && decide (s.regs.pc = 0x0100) then { s with ctl := { s.ctl with inBios := false } } else s

/-- Line 3: Halted, and nothing enabled is pending, whatever IME is (R411). -/
def State.waits (s : State) : Bool := s.ctl.halted && decide (s.pending = 0)

/-- Line 3: the wake from Halted (R412). -/
def State.wake (s : State) : State := { s with ctl := { s.ctl with halted := false } }

/-- Line 5: the EI delay counter at the end of an instruction (R414). -/
def State.eiUpdate (s : State) : State :=
  match s.ctl.eiDelay with
  | 0 => s
  | 1 => { s with ctl := { s.ctl with eiDelay := 0, ime := true } }
  | 2 => { s with ctl := { s.ctl with eiDelay := 1 } }

/-- The next read of 0xFF00 takes the host's next draw of the joypad lines (00_scope.md R8; R470; log 3). -/
def State.nextSnapshot (s : State) : State := { s with hostDraw := s.hostDraw + 1 }

/-- Line 6: the timer, then the PPU. -/
def State.advance (s : State) (c : Nat) : State := (s.advanceTimer c).advancePpu c

/-- The cycles of an interrupt entry (R423). -/
def entryCycles : Nat := 20

/-- Line 7: with IME set, the highest-priority enabled request is served, and its cycles are charged and fed to the timer
and the PPU (R422, R423). -/
def State.serveInterrupt (s : State) : State :=
  if s.ctl.ime then
    match highestPriority s.pending with
    | some i => ((s.takeInterrupt i).took (s.ctl.cycles + entryCycles)).advance entryCycles
    | none => s
  else s

/-- Lines 6 to 8, for the cycles the step has taken so far. -/
def State.finishStep (s : State) : State := (s.advance s.ctl.cycles).serveInterrupt

/-- Line 3 and on, for a halted step: a grant of 4 cycles, no instruction, so no line 5 (R411). -/
def State.haltedStep (s : State) : State := (s.took 4).finishStep

/-- Lines 5 to 8, after an instruction. A recorded fault ends the step at once (R401). -/
def State.endInstruction (s : State) : State :=
  if s.ctl.fault.isSome then s else s.eiUpdate.nextSnapshot.finishStep

/-- What a step returns (R410, R415): the fault, or the number of cycles. -/
inductive StepReturn where
  | cycles (n : Nat)
  | fault (r : IllegalOpcode)
deriving DecidableEq, Repr

/-- What the step that led to this state returned. -/
def State.returned? (s : State) : StepReturn :=
  match s.ctl.fault with
  | some r => .fault r
  | none => .cycles s.ctl.cycles

end Sys2Proof.Machine
end

