-- ==== Sys2Proof/Machine/Alu16.lean ====
section
/-! DEFINITION. 16-bit arithmetic (44_alu16.md R290 to R293). The shared operation of each
rule comes first, then one meaning for each row of the opcode table, in the table's order. -/

namespace Sys2Proof.Machine

/-- ADD HL,rr (R290). -/
def addHl (rr : Pair) (s : State) : Result :=
  let r := add16 s.regs.hl (s.regs.pair rr) s.regs.flags
  ((s.setHl r.1).setFlags r.2).done 8

/-- INC rr (R291): no flag is written. -/
def incPair (rr : Pair) (s : State) : Result := (s.setPair rr (s.regs.pair rr + 1)).done 8

/-- DEC rr (R292): no flag is written. -/
def decPair (rr : Pair) (s : State) : Result := (s.setPair rr (s.regs.pair rr - 1)).done 8

/-- ADD SP,e (R293). -/
def addSpE (e : Byte) (s : State) : Result :=
  ((s.setSp (addSigned s.regs.sp e).1).setFlags (addSigned s.regs.sp e).2).done 16

/-! ## One meaning for each row -/

/-- INC BC (R291). -/
def exec_inc_bc (s : State) : Result := incPair .bc s
/-- ADD HL,BC (R290). -/
def exec_add_hl_bc (s : State) : Result := addHl .bc s
/-- DEC BC (R292). -/
def exec_dec_bc (s : State) : Result := decPair .bc s
/-- INC DE (R291). -/
def exec_inc_de (s : State) : Result := incPair .de s
/-- ADD HL,DE (R290). -/
def exec_add_hl_de (s : State) : Result := addHl .de s
/-- DEC DE (R292). -/
def exec_dec_de (s : State) : Result := decPair .de s
/-- INC HL (R291). -/
def exec_inc_hl (s : State) : Result := incPair .hl s
/-- ADD HL,HL (R290). -/
def exec_add_hl_hl (s : State) : Result := addHl .hl s
/-- DEC HL (R292). -/
def exec_dec_hl (s : State) : Result := decPair .hl s
/-- INC SP (R291). -/
def exec_inc_sp (s : State) : Result := incPair .sp s
/-- ADD HL,SP (R290). -/
def exec_add_hl_sp (s : State) : Result := addHl .sp s
/-- DEC SP (R292). -/
def exec_dec_sp (s : State) : Result := decPair .sp s
/-- ADD SP,e (R293). -/
def exec_add_sp_e (e : Byte) (s : State) : Result := addSpE e s

end Sys2Proof.Machine
end

