-- ==== Sys2Proof/Machine/Alu8.lean ====
section
/-! DEFINITION. 8-bit arithmetic and logic (43_alu8.md R250 to R284). The shared operation of each
rule comes first, then one meaning for each row of the opcode table, in the table's order. -/

namespace Sys2Proof.Machine

/-- A and the flags take the result of operation `o` on A and `v`. -/
def State.applyAlu (s : State) (o : AluOp) (v : Byte) : State :=
  let r := alu8 o s.regs.a v s.regs.flags
  (s.setA r.1).setFlags r.2

/-- The register form of the ALU operations (R252, R253 to R274). -/
def aluR (o : AluOp) (src : R8) (s : State) : Result := (s.applyAlu o (s.regs.r8 src)).done 4

/-- The (HL) form (R252, R254 to R275). -/
def aluAtHL (o : AluOp) (s : State) : Result := (s.applyAlu o s.atHL).done 8

/-- The immediate form (R252, R255 to R276). -/
def aluN (o : AluOp) (n : Byte) (s : State) : Result := (s.applyAlu o n).done 8

/-- INC r (R277). -/
def incR (dst : R8) (s : State) : Result :=
  let r := inc8 (s.regs.r8 dst) s.regs.flags
  ((s.setR8 dst r.1).setFlags r.2).done 4

/-- INC (HL) (R278): one read, then one write of the same address. -/
def incAtHL (s : State) : Result :=
  let r := inc8 s.atHL s.regs.flags
  ((s.setAtHL r.1).setFlags r.2).done 12

/-- DEC r (R279). -/
def decR (dst : R8) (s : State) : Result :=
  let r := dec8 (s.regs.r8 dst) s.regs.flags
  ((s.setR8 dst r.1).setFlags r.2).done 4

/-- DEC (HL) (R280). -/
def decAtHL (s : State) : Result :=
  let r := dec8 s.atHL s.regs.flags
  ((s.setAtHL r.1).setFlags r.2).done 12

/-- DAA (R281). -/
def daa (s : State) : Result :=
  let r := daa8 s.regs.a s.regs.flags
  ((s.setA r.1).setFlags r.2).done 4

/-- CPL (R282). -/
def cpl (s : State) : Result :=
  ((s.setA (~~~s.regs.a)).setFlags { s.regs.flags with n := true, hf := true }).done 4

/-- SCF (R283). -/
def scf (s : State) : Result := (s.setFlags { s.regs.flags with n := false, hf := false, cy := true }).done 4

/-- CCF (R284). -/
def ccf (s : State) : Result :=
  (s.setFlags { s.regs.flags with n := false, hf := false, cy := !s.regs.flags.cy }).done 4

/-! ## One meaning for each row -/

/-- INC B (R277). -/
def exec_inc_b (s : State) : Result := incR .b s
/-- DEC B (R279). -/
def exec_dec_b (s : State) : Result := decR .b s
/-- INC C (R277). -/
def exec_inc_c (s : State) : Result := incR .c s
/-- DEC C (R279). -/
def exec_dec_c (s : State) : Result := decR .c s
/-- INC D (R277). -/
def exec_inc_d (s : State) : Result := incR .d s
/-- DEC D (R279). -/
def exec_dec_d (s : State) : Result := decR .d s
/-- INC E (R277). -/
def exec_inc_e (s : State) : Result := incR .e s
/-- DEC E (R279). -/
def exec_dec_e (s : State) : Result := decR .e s
/-- INC H (R277). -/
def exec_inc_h (s : State) : Result := incR .h s
/-- DEC H (R279). -/
def exec_dec_h (s : State) : Result := decR .h s
/-- DAA (R281). -/
def exec_daa (s : State) : Result := daa s
/-- INC L (R277). -/
def exec_inc_l (s : State) : Result := incR .l s
/-- DEC L (R279). -/
def exec_dec_l (s : State) : Result := decR .l s
/-- CPL (R282). -/
def exec_cpl (s : State) : Result := cpl s
/-- INC (HL) (R278). -/
def exec_inc_at_hl (s : State) : Result := incAtHL s
/-- DEC (HL) (R280). -/
def exec_dec_at_hl (s : State) : Result := decAtHL s
/-- SCF (R283). -/
def exec_scf (s : State) : Result := scf s
/-- INC A (R277). -/
def exec_inc_a (s : State) : Result := incR .a s
/-- DEC A (R279). -/
def exec_dec_a (s : State) : Result := decR .a s
/-- CCF (R284). -/
def exec_ccf (s : State) : Result := ccf s
/-- ADD A,B (R253). -/
def exec_add_a_b (s : State) : Result := aluR .add .b s
/-- ADD A,C (R253). -/
def exec_add_a_c (s : State) : Result := aluR .add .c s
/-- ADD A,D (R253). -/
def exec_add_a_d (s : State) : Result := aluR .add .d s
/-- ADD A,E (R253). -/
def exec_add_a_e (s : State) : Result := aluR .add .e s
/-- ADD A,H (R253). -/
def exec_add_a_h (s : State) : Result := aluR .add .h s
/-- ADD A,L (R253). -/
def exec_add_a_l (s : State) : Result := aluR .add .l s
/-- ADD A,(HL) (R254). -/
def exec_add_a_at_hl (s : State) : Result := aluAtHL .add s
/-- ADD A,A (R253). -/
def exec_add_a_a (s : State) : Result := aluR .add .a s
/-- ADC A,B (R256). -/
def exec_adc_a_b (s : State) : Result := aluR .adc .b s
/-- ADC A,C (R256). -/
def exec_adc_a_c (s : State) : Result := aluR .adc .c s
/-- ADC A,D (R256). -/
def exec_adc_a_d (s : State) : Result := aluR .adc .d s
/-- ADC A,E (R256). -/
def exec_adc_a_e (s : State) : Result := aluR .adc .e s
/-- ADC A,H (R256). -/
def exec_adc_a_h (s : State) : Result := aluR .adc .h s
/-- ADC A,L (R256). -/
def exec_adc_a_l (s : State) : Result := aluR .adc .l s
/-- ADC A,(HL) (R257). -/
def exec_adc_a_at_hl (s : State) : Result := aluAtHL .adc s
/-- ADC A,A (R256). -/
def exec_adc_a_a (s : State) : Result := aluR .adc .a s
/-- SUB B (R259). -/
def exec_sub_b (s : State) : Result := aluR .sub .b s
/-- SUB C (R259). -/
def exec_sub_c (s : State) : Result := aluR .sub .c s
/-- SUB D (R259). -/
def exec_sub_d (s : State) : Result := aluR .sub .d s
/-- SUB E (R259). -/
def exec_sub_e (s : State) : Result := aluR .sub .e s
/-- SUB H (R259). -/
def exec_sub_h (s : State) : Result := aluR .sub .h s
/-- SUB L (R259). -/
def exec_sub_l (s : State) : Result := aluR .sub .l s
/-- SUB (HL) (R260). -/
def exec_sub_at_hl (s : State) : Result := aluAtHL .sub s
/-- SUB A (R259). -/
def exec_sub_a (s : State) : Result := aluR .sub .a s
/-- SBC A,B (R262). -/
def exec_sbc_a_b (s : State) : Result := aluR .sbc .b s
/-- SBC A,C (R262). -/
def exec_sbc_a_c (s : State) : Result := aluR .sbc .c s
/-- SBC A,D (R262). -/
def exec_sbc_a_d (s : State) : Result := aluR .sbc .d s
/-- SBC A,E (R262). -/
def exec_sbc_a_e (s : State) : Result := aluR .sbc .e s
/-- SBC A,H (R262). -/
def exec_sbc_a_h (s : State) : Result := aluR .sbc .h s
/-- SBC A,L (R262). -/
def exec_sbc_a_l (s : State) : Result := aluR .sbc .l s
/-- SBC A,(HL) (R263). -/
def exec_sbc_a_at_hl (s : State) : Result := aluAtHL .sbc s
/-- SBC A,A (R262). -/
def exec_sbc_a_a (s : State) : Result := aluR .sbc .a s
/-- AND B (R265). -/
def exec_and_b (s : State) : Result := aluR .and .b s
/-- AND C (R265). -/
def exec_and_c (s : State) : Result := aluR .and .c s
/-- AND D (R265). -/
def exec_and_d (s : State) : Result := aluR .and .d s
/-- AND E (R265). -/
def exec_and_e (s : State) : Result := aluR .and .e s
/-- AND H (R265). -/
def exec_and_h (s : State) : Result := aluR .and .h s
/-- AND L (R265). -/
def exec_and_l (s : State) : Result := aluR .and .l s
/-- AND (HL) (R266). -/
def exec_and_at_hl (s : State) : Result := aluAtHL .and s
/-- AND A (R265). -/
def exec_and_a (s : State) : Result := aluR .and .a s
/-- XOR B (R268). -/
def exec_xor_b (s : State) : Result := aluR .xor .b s
/-- XOR C (R268). -/
def exec_xor_c (s : State) : Result := aluR .xor .c s
/-- XOR D (R268). -/
def exec_xor_d (s : State) : Result := aluR .xor .d s
/-- XOR E (R268). -/
def exec_xor_e (s : State) : Result := aluR .xor .e s
/-- XOR H (R268). -/
def exec_xor_h (s : State) : Result := aluR .xor .h s
/-- XOR L (R268). -/
def exec_xor_l (s : State) : Result := aluR .xor .l s
/-- XOR (HL) (R269). -/
def exec_xor_at_hl (s : State) : Result := aluAtHL .xor s
/-- XOR A (R268). -/
def exec_xor_a (s : State) : Result := aluR .xor .a s
/-- OR B (R271). -/
def exec_or_b (s : State) : Result := aluR .or .b s
/-- OR C (R271). -/
def exec_or_c (s : State) : Result := aluR .or .c s
/-- OR D (R271). -/
def exec_or_d (s : State) : Result := aluR .or .d s
/-- OR E (R271). -/
def exec_or_e (s : State) : Result := aluR .or .e s
/-- OR H (R271). -/
def exec_or_h (s : State) : Result := aluR .or .h s
/-- OR L (R271). -/
def exec_or_l (s : State) : Result := aluR .or .l s
/-- OR (HL) (R272). -/
def exec_or_at_hl (s : State) : Result := aluAtHL .or s
/-- OR A (R271). -/
def exec_or_a (s : State) : Result := aluR .or .a s
/-- CP B (R274). -/
def exec_cp_b (s : State) : Result := aluR .cp .b s
/-- CP C (R274). -/
def exec_cp_c (s : State) : Result := aluR .cp .c s
/-- CP D (R274). -/
def exec_cp_d (s : State) : Result := aluR .cp .d s
/-- CP E (R274). -/
def exec_cp_e (s : State) : Result := aluR .cp .e s
/-- CP H (R274). -/
def exec_cp_h (s : State) : Result := aluR .cp .h s
/-- CP L (R274). -/
def exec_cp_l (s : State) : Result := aluR .cp .l s
/-- CP (HL) (R275). -/
def exec_cp_at_hl (s : State) : Result := aluAtHL .cp s
/-- CP A (R274). -/
def exec_cp_a (s : State) : Result := aluR .cp .a s
/-- ADD A,n (R255). -/
def exec_add_a_n (n : Byte) (s : State) : Result := aluN .add n s
/-- ADC A,n (R258). -/
def exec_adc_a_n (n : Byte) (s : State) : Result := aluN .adc n s
/-- SUB n (R261). -/
def exec_sub_n (n : Byte) (s : State) : Result := aluN .sub n s
/-- SBC A,n (R264). -/
def exec_sbc_a_n (n : Byte) (s : State) : Result := aluN .sbc n s
/-- AND n (R267). -/
def exec_and_n (n : Byte) (s : State) : Result := aluN .and n s
/-- XOR n (R270). -/
def exec_xor_n (n : Byte) (s : State) : Result := aluN .xor n s
/-- OR n (R273). -/
def exec_or_n (n : Byte) (s : State) : Result := aluN .or n s
/-- CP n (R276). -/
def exec_cp_n (n : Byte) (s : State) : Result := aluN .cp n s

end Sys2Proof.Machine
end

