-- ==== Sys2Proof/Machine/Control.lean ====
section
/-! DEFINITION. Jumps, calls, returns and restarts (46_control.md R330 to R340). PC already holds the address after the
instruction (10_state.md R26). The shared operation of each
rule comes first, then one meaning for each row of the opcode table, in the table's order. -/

namespace Sys2Proof.Machine

/-- The target of a relative jump (R333): the displacement is sign-extended and added to PC. -/
def State.relativeTarget (s : State) (e : Byte) : Word := s.regs.pc + e.signExtend 16

/-- A call: PC pushed, then PC at the target (R335, R336, R337). -/
def State.callTo (s : State) (target : Word) : State := (s.push16 s.regs.pc).setPc target

/-- A return: PC popped (R338, R339). -/
def State.returned (s : State) : State := s.popped.setPc s.stackTop

/-- JP nn (R330). -/
def jp (nn : Word) (s : State) : Result := (s.setPc nn).done 16

/-- JP cc,nn (R331). -/
def jpCc (cc : Cond) (nn : Word) (s : State) : Result :=
  if s.regs.flags.holds cc then (s.setPc nn).done 16 else s.done 12

/-- JP (HL) (R332): no memory is read. -/
def jpHl (s : State) : Result := (s.setPc s.regs.hl).done 4

/-- JR e (R333). -/
def jr (e : Byte) (s : State) : Result := (s.setPc (s.relativeTarget e)).done 12

/-- JR cc,e (R334). -/
def jrCc (cc : Cond) (e : Byte) (s : State) : Result :=
  if s.regs.flags.holds cc then (s.setPc (s.relativeTarget e)).done 12 else s.done 8

/-- CALL nn (R335). -/
def call (nn : Word) (s : State) : Result := (s.callTo nn).done 24

/-- CALL cc,nn (R336). -/
def callCc (cc : Cond) (nn : Word) (s : State) : Result :=
  if s.regs.flags.holds cc then (s.callTo nn).done 24 else s.done 12

/-- RST t (R337). -/
def rst (t : Fin 8) (s : State) : Result := (s.callTo (restartTarget t)).done 16

/-- RET (R338). -/
def ret (s : State) : Result := s.returned.done 16

/-- RET cc (R339). -/
def retCc (cc : Cond) (s : State) : Result := if s.regs.flags.holds cc then s.returned.done 20 else s.done 8

/-- RETI (R340). -/
def reti (s : State) : Result := s.returnFromInterrupt.done 16

/-! ## One meaning for each row -/

/-- JR e (R333). -/
def exec_jr_e (e : Byte) (s : State) : Result := jr e s
/-- JR NZ,e (R334). -/
def exec_jr_nz_e (e : Byte) (s : State) : Result := jrCc .nz e s
/-- JR Z,e (R334). -/
def exec_jr_z_e (e : Byte) (s : State) : Result := jrCc .z e s
/-- JR NC,e (R334). -/
def exec_jr_nc_e (e : Byte) (s : State) : Result := jrCc .nc e s
/-- JR C,e (R334). -/
def exec_jr_c_e (e : Byte) (s : State) : Result := jrCc .c e s
/-- RET NZ (R339). -/
def exec_ret_nz (s : State) : Result := retCc .nz s
/-- JP NZ,nn (R331). -/
def exec_jp_nz_nn (nn : Word) (s : State) : Result := jpCc .nz nn s
/-- JP nn (R330). -/
def exec_jp_nn (nn : Word) (s : State) : Result := jp nn s
/-- CALL NZ,nn (R336). -/
def exec_call_nz_nn (nn : Word) (s : State) : Result := callCc .nz nn s
/-- RST 0x00 (R337). -/
def exec_rst_00 (s : State) : Result := rst 0 s
/-- RET Z (R339). -/
def exec_ret_z (s : State) : Result := retCc .z s
/-- RET (R338). -/
def exec_ret (s : State) : Result := ret s
/-- JP Z,nn (R331). -/
def exec_jp_z_nn (nn : Word) (s : State) : Result := jpCc .z nn s
/-- CALL Z,nn (R336). -/
def exec_call_z_nn (nn : Word) (s : State) : Result := callCc .z nn s
/-- CALL nn (R335). -/
def exec_call_nn (nn : Word) (s : State) : Result := call nn s
/-- RST 0x08 (R337). -/
def exec_rst_08 (s : State) : Result := rst 1 s
/-- RET NC (R339). -/
def exec_ret_nc (s : State) : Result := retCc .nc s
/-- JP NC,nn (R331). -/
def exec_jp_nc_nn (nn : Word) (s : State) : Result := jpCc .nc nn s
/-- CALL NC,nn (R336). -/
def exec_call_nc_nn (nn : Word) (s : State) : Result := callCc .nc nn s
/-- RST 0x10 (R337). -/
def exec_rst_10 (s : State) : Result := rst 2 s
/-- RET C (R339). -/
def exec_ret_c (s : State) : Result := retCc .c s
/-- RETI (R340). -/
def exec_reti (s : State) : Result := reti s
/-- JP C,nn (R331). -/
def exec_jp_c_nn (nn : Word) (s : State) : Result := jpCc .c nn s
/-- CALL C,nn (R336). -/
def exec_call_c_nn (nn : Word) (s : State) : Result := callCc .c nn s
/-- RST 0x18 (R337). -/
def exec_rst_18 (s : State) : Result := rst 3 s
/-- RST 0x20 (R337). -/
def exec_rst_20 (s : State) : Result := rst 4 s
/-- JP (HL) (R332). -/
def exec_jp_at_hl (s : State) : Result := jpHl s
/-- RST 0x28 (R337). -/
def exec_rst_28 (s : State) : Result := rst 5 s
/-- RST 0x30 (R337). -/
def exec_rst_30 (s : State) : Result := rst 6 s
/-- RST 0x38 (R337). -/
def exec_rst_38 (s : State) : Result := rst 7 s

end Sys2Proof.Machine
end

