-- ==== Sys2Proof/Machine/CpuControl.lean ====
section
/-! DEFINITION. CPU control and the illegal opcodes (47_cpu_control.md R350 to R355). The shared operation of each
rule comes first, then one meaning for each row of the opcode table, in the table's order. -/

namespace Sys2Proof.Machine

/-- NOP (R350). -/
def nop (s : State) : Result := s.done 4

/-- HALT (R351). -/
def halt (s : State) : Result := State.done { s with ctl := { s.ctl with halted := true } } 4

/-- STOP (R352): the byte `n` has been fetched and is ignored. -/
def stop (_n : Byte) (s : State) : Result := State.done { s with ctl := { s.ctl with stopped := true } } 4

/-- DI (R353). -/
def di (s : State) : Result := State.done { s with ctl := { s.ctl with ime := false, eiDelay := 0 } } 4

/-- EI (R354): IME is set by the end-of-instruction update, not here. -/
def ei (s : State) : Result :=
  State.done { s with ctl := { s.ctl with eiDelay := if s.ctl.eiDelay = 0 then 2 else s.ctl.eiDelay } } 4

/-- An illegal opcode (R355): IllegalOpcode is raised, which the next state records. -/
def illegal (op : Byte) (s : State) : Result := .next (s.raiseIllegal op)

/-! ## One meaning for each row -/

/-- NOP (R350). -/
def exec_nop (s : State) : Result := nop s
/-- STOP (R352). -/
def exec_stop (n : Byte) (s : State) : Result := stop n s
/-- HALT (R351). -/
def exec_halt (s : State) : Result := halt s
/-- (illegal 0xD3) (R355). -/
def exec_illegal_d3 (s : State) : Result := illegal 0xD3 s
/-- (illegal 0xDB) (R355). -/
def exec_illegal_db (s : State) : Result := illegal 0xDB s
/-- (illegal 0xDD) (R355). -/
def exec_illegal_dd (s : State) : Result := illegal 0xDD s
/-- (illegal 0xE3) (R355). -/
def exec_illegal_e3 (s : State) : Result := illegal 0xE3 s
/-- (illegal 0xE4) (R355). -/
def exec_illegal_e4 (s : State) : Result := illegal 0xE4 s
/-- (illegal 0xEB) (R355). -/
def exec_illegal_eb (s : State) : Result := illegal 0xEB s
/-- (illegal 0xEC) (R355). -/
def exec_illegal_ec (s : State) : Result := illegal 0xEC s
/-- (illegal 0xED) (R355). -/
def exec_illegal_ed (s : State) : Result := illegal 0xED s
/-- DI (R353). -/
def exec_di (s : State) : Result := di s
/-- (illegal 0xF4) (R355). -/
def exec_illegal_f4 (s : State) : Result := illegal 0xF4 s
/-- EI (R354). -/
def exec_ei (s : State) : Result := ei s
/-- (illegal 0xFC) (R355). -/
def exec_illegal_fc (s : State) : Result := illegal 0xFC s
/-- (illegal 0xFD) (R355). -/
def exec_illegal_fd (s : State) : Result := illegal 0xFD s

end Sys2Proof.Machine
end

