-- ==== Sys2Proof/Machine/Load16.lean ====
section
/-! DEFINITION. The 16-bit loads and the stack instructions (42_load16.md R230 to R235). The shared operation of each
rule comes first, then one meaning for each row of the opcode table, in the table's order. -/

namespace Sys2Proof.Machine

/-- LD rr,nn (R230). -/
def ldPairNn (rr : Pair) (nn : Word) (s : State) : Result := (s.setPair rr nn).done 12

/-- LD (nn),SP (R231). -/
def ldNnSp (nn : Word) (s : State) : Result := (s.memWrite16 nn s.regs.sp).done 20

/-- LD SP,HL (R232). -/
def ldSpHl (s : State) : Result := (s.setSp s.regs.hl).done 8

/-- PUSH qq (R233). -/
def push (qq : StackPair) (s : State) : Result := (s.push16 (s.regs.stackPair qq)).done 16

/-- POP qq (R234). -/
def pop (qq : StackPair) (s : State) : Result :=
  (s.popped.setRegs (s.popped.regs.setStackPair qq s.stackTop)).done 12

/-- LD HL,SP+e (R235). -/
def ldHlSpE (e : Byte) (s : State) : Result :=
  ((s.setHl (addSigned s.regs.sp e).1).setFlags (addSigned s.regs.sp e).2).done 12

/-! ## One meaning for each row -/

/-- LD BC,nn (R230). -/
def exec_ld_bc_nn (nn : Word) (s : State) : Result := ldPairNn .bc nn s
/-- LD (nn),SP (R231). -/
def exec_ld_at_nn_sp (nn : Word) (s : State) : Result := ldNnSp nn s
/-- LD DE,nn (R230). -/
def exec_ld_de_nn (nn : Word) (s : State) : Result := ldPairNn .de nn s
/-- LD HL,nn (R230). -/
def exec_ld_hl_nn (nn : Word) (s : State) : Result := ldPairNn .hl nn s
/-- LD SP,nn (R230). -/
def exec_ld_sp_nn (nn : Word) (s : State) : Result := ldPairNn .sp nn s
/-- POP BC (R234). -/
def exec_pop_bc (s : State) : Result := pop .bc s
/-- PUSH BC (R233). -/
def exec_push_bc (s : State) : Result := push .bc s
/-- POP DE (R234). -/
def exec_pop_de (s : State) : Result := pop .de s
/-- PUSH DE (R233). -/
def exec_push_de (s : State) : Result := push .de s
/-- POP HL (R234). -/
def exec_pop_hl (s : State) : Result := pop .hl s
/-- PUSH HL (R233). -/
def exec_push_hl (s : State) : Result := push .hl s
/-- POP AF (R234). -/
def exec_pop_af (s : State) : Result := pop .af s
/-- PUSH AF (R233). -/
def exec_push_af (s : State) : Result := push .af s
/-- LD HL,SP+e (R235). -/
def exec_ld_hl_sp_e (e : Byte) (s : State) : Result := ldHlSpE e s
/-- LD SP,HL (R232). -/
def exec_ld_sp_hl (s : State) : Result := ldSpHl s

end Sys2Proof.Machine
end

