-- ==== Sys2Proof/Machine/Load8.lean ====
section
/-! DEFINITION. The 8-bit loads (41_load8.md R200 to R218). No load writes a flag. The shared operation of each
rule comes first, then one meaning for each row of the opcode table, in the table's order. -/

namespace Sys2Proof.Machine

/-- LD r,r' (R200). -/
def ldRR (dst src : R8) (s : State) : Result := (s.setR8 dst (s.regs.r8 src)).done 4

/-- LD r,n (R201). -/
def ldRN (dst : R8) (n : Byte) (s : State) : Result := (s.setR8 dst n).done 8

/-- LD r,(HL) (R202): the address is HL from before the write. -/
def ldRAtHL (dst : R8) (s : State) : Result := (s.setR8 dst s.atHL).done 8

/-- LD (HL),r (R203). -/
def ldAtHLR (src : R8) (s : State) : Result := (s.setAtHL (s.regs.r8 src)).done 8

/-- LD (HL),n (R204). -/
def ldAtHLN (n : Byte) (s : State) : Result := (s.setAtHL n).done 12

/-- LD A,(BC) and LD A,(DE) (R205, R206). -/
def ldAAtPair (p : IndirectPair) (s : State) : Result := (s.setA (s.memRead (s.regs.indirectPair p))).done 8

/-- LD (BC),A and LD (DE),A (R207, R208). -/
def ldAtPairA (p : IndirectPair) (s : State) : Result := (s.memWrite (s.regs.indirectPair p) s.regs.a).done 8

/-- LD A,(nn) (R209). -/
def ldAAtNn (nn : Word) (s : State) : Result := (s.setA (s.memRead nn)).done 16

/-- LD (nn),A (R210). -/
def ldAtNnA (nn : Word) (s : State) : Result := (s.memWrite nn s.regs.a).done 16

/-- LDH A,(n) (R211). -/
def ldhAAtN (n : Byte) (s : State) : Result := (s.setA (s.memRead (ioAddress n))).done 12

/-- LDH (n),A (R212). -/
def ldhAtNA (n : Byte) (s : State) : Result := (s.memWrite (ioAddress n) s.regs.a).done 12

/-- LD A,(C) (R213). -/
def ldAAtC (s : State) : Result := (s.setA (s.memRead (ioAddress s.regs.c))).done 8

/-- LD (C),A (R214). -/
def ldAtCA (s : State) : Result := (s.memWrite (ioAddress s.regs.c) s.regs.a).done 8

/-- LD (HL+),A (R215). -/
def ldAtHliA (s : State) : Result := ((s.setAtHL s.regs.a).setHl (s.regs.hl + 1)).done 8

/-- LD A,(HL+) (R216). -/
def ldAAtHli (s : State) : Result := ((s.setA s.atHL).setHl (s.regs.hl + 1)).done 8

/-- LD (HL-),A (R217). -/
def ldAtHldA (s : State) : Result := ((s.setAtHL s.regs.a).setHl (s.regs.hl - 1)).done 8

/-- LD A,(HL-) (R218). -/
def ldAAtHld (s : State) : Result := ((s.setA s.atHL).setHl (s.regs.hl - 1)).done 8

/-! ## One meaning for each row -/

/-- LD (BC),A (R207). -/
def exec_ld_at_bc_a (s : State) : Result := ldAtPairA .bc s
/-- LD B,n (R201). -/
def exec_ld_b_n (n : Byte) (s : State) : Result := ldRN .b n s
/-- LD A,(BC) (R205). -/
def exec_ld_a_at_bc (s : State) : Result := ldAAtPair .bc s
/-- LD C,n (R201). -/
def exec_ld_c_n (n : Byte) (s : State) : Result := ldRN .c n s
/-- LD (DE),A (R208). -/
def exec_ld_at_de_a (s : State) : Result := ldAtPairA .de s
/-- LD D,n (R201). -/
def exec_ld_d_n (n : Byte) (s : State) : Result := ldRN .d n s
/-- LD A,(DE) (R206). -/
def exec_ld_a_at_de (s : State) : Result := ldAAtPair .de s
/-- LD E,n (R201). -/
def exec_ld_e_n (n : Byte) (s : State) : Result := ldRN .e n s
/-- LD (HL+),A (R215). -/
def exec_ld_at_hli_a (s : State) : Result := ldAtHliA s
/-- LD H,n (R201). -/
def exec_ld_h_n (n : Byte) (s : State) : Result := ldRN .h n s
/-- LD A,(HL+) (R216). -/
def exec_ld_a_at_hli (s : State) : Result := ldAAtHli s
/-- LD L,n (R201). -/
def exec_ld_l_n (n : Byte) (s : State) : Result := ldRN .l n s
/-- LD (HL-),A (R217). -/
def exec_ld_at_hld_a (s : State) : Result := ldAtHldA s
/-- LD (HL),n (R204). -/
def exec_ld_at_hl_n (n : Byte) (s : State) : Result := ldAtHLN n s
/-- LD A,(HL-) (R218). -/
def exec_ld_a_at_hld (s : State) : Result := ldAAtHld s
/-- LD A,n (R201). -/
def exec_ld_a_n (n : Byte) (s : State) : Result := ldRN .a n s
/-- LD B,B (R200). -/
def exec_ld_b_b (s : State) : Result := ldRR .b .b s
/-- LD B,C (R200). -/
def exec_ld_b_c (s : State) : Result := ldRR .b .c s
/-- LD B,D (R200). -/
def exec_ld_b_d (s : State) : Result := ldRR .b .d s
/-- LD B,E (R200). -/
def exec_ld_b_e (s : State) : Result := ldRR .b .e s
/-- LD B,H (R200). -/
def exec_ld_b_h (s : State) : Result := ldRR .b .h s
/-- LD B,L (R200). -/
def exec_ld_b_l (s : State) : Result := ldRR .b .l s
/-- LD B,(HL) (R202). -/
def exec_ld_b_at_hl (s : State) : Result := ldRAtHL .b s
/-- LD B,A (R200). -/
def exec_ld_b_a (s : State) : Result := ldRR .b .a s
/-- LD C,B (R200). -/
def exec_ld_c_b (s : State) : Result := ldRR .c .b s
/-- LD C,C (R200). -/
def exec_ld_c_c (s : State) : Result := ldRR .c .c s
/-- LD C,D (R200). -/
def exec_ld_c_d (s : State) : Result := ldRR .c .d s
/-- LD C,E (R200). -/
def exec_ld_c_e (s : State) : Result := ldRR .c .e s
/-- LD C,H (R200). -/
def exec_ld_c_h (s : State) : Result := ldRR .c .h s
/-- LD C,L (R200). -/
def exec_ld_c_l (s : State) : Result := ldRR .c .l s
/-- LD C,(HL) (R202). -/
def exec_ld_c_at_hl (s : State) : Result := ldRAtHL .c s
/-- LD C,A (R200). -/
def exec_ld_c_a (s : State) : Result := ldRR .c .a s
/-- LD D,B (R200). -/
def exec_ld_d_b (s : State) : Result := ldRR .d .b s
/-- LD D,C (R200). -/
def exec_ld_d_c (s : State) : Result := ldRR .d .c s
/-- LD D,D (R200). -/
def exec_ld_d_d (s : State) : Result := ldRR .d .d s
/-- LD D,E (R200). -/
def exec_ld_d_e (s : State) : Result := ldRR .d .e s
/-- LD D,H (R200). -/
def exec_ld_d_h (s : State) : Result := ldRR .d .h s
/-- LD D,L (R200). -/
def exec_ld_d_l (s : State) : Result := ldRR .d .l s
/-- LD D,(HL) (R202). -/
def exec_ld_d_at_hl (s : State) : Result := ldRAtHL .d s
/-- LD D,A (R200). -/
def exec_ld_d_a (s : State) : Result := ldRR .d .a s
/-- LD E,B (R200). -/
def exec_ld_e_b (s : State) : Result := ldRR .e .b s
/-- LD E,C (R200). -/
def exec_ld_e_c (s : State) : Result := ldRR .e .c s
/-- LD E,D (R200). -/
def exec_ld_e_d (s : State) : Result := ldRR .e .d s
/-- LD E,E (R200). -/
def exec_ld_e_e (s : State) : Result := ldRR .e .e s
/-- LD E,H (R200). -/
def exec_ld_e_h (s : State) : Result := ldRR .e .h s
/-- LD E,L (R200). -/
def exec_ld_e_l (s : State) : Result := ldRR .e .l s
/-- LD E,(HL) (R202). -/
def exec_ld_e_at_hl (s : State) : Result := ldRAtHL .e s
/-- LD E,A (R200). -/
def exec_ld_e_a (s : State) : Result := ldRR .e .a s
/-- LD H,B (R200). -/
def exec_ld_h_b (s : State) : Result := ldRR .h .b s
/-- LD H,C (R200). -/
def exec_ld_h_c (s : State) : Result := ldRR .h .c s
/-- LD H,D (R200). -/
def exec_ld_h_d (s : State) : Result := ldRR .h .d s
/-- LD H,E (R200). -/
def exec_ld_h_e (s : State) : Result := ldRR .h .e s
/-- LD H,H (R200). -/
def exec_ld_h_h (s : State) : Result := ldRR .h .h s
/-- LD H,L (R200). -/
def exec_ld_h_l (s : State) : Result := ldRR .h .l s
/-- LD H,(HL) (R202). -/
def exec_ld_h_at_hl (s : State) : Result := ldRAtHL .h s
/-- LD H,A (R200). -/
def exec_ld_h_a (s : State) : Result := ldRR .h .a s
/-- LD L,B (R200). -/
def exec_ld_l_b (s : State) : Result := ldRR .l .b s
/-- LD L,C (R200). -/
def exec_ld_l_c (s : State) : Result := ldRR .l .c s
/-- LD L,D (R200). -/
def exec_ld_l_d (s : State) : Result := ldRR .l .d s
/-- LD L,E (R200). -/
def exec_ld_l_e (s : State) : Result := ldRR .l .e s
/-- LD L,H (R200). -/
def exec_ld_l_h (s : State) : Result := ldRR .l .h s
/-- LD L,L (R200). -/
def exec_ld_l_l (s : State) : Result := ldRR .l .l s
/-- LD L,(HL) (R202). -/
def exec_ld_l_at_hl (s : State) : Result := ldRAtHL .l s
/-- LD L,A (R200). -/
def exec_ld_l_a (s : State) : Result := ldRR .l .a s
/-- LD (HL),B (R203). -/
def exec_ld_at_hl_b (s : State) : Result := ldAtHLR .b s
/-- LD (HL),C (R203). -/
def exec_ld_at_hl_c (s : State) : Result := ldAtHLR .c s
/-- LD (HL),D (R203). -/
def exec_ld_at_hl_d (s : State) : Result := ldAtHLR .d s
/-- LD (HL),E (R203). -/
def exec_ld_at_hl_e (s : State) : Result := ldAtHLR .e s
/-- LD (HL),H (R203). -/
def exec_ld_at_hl_h (s : State) : Result := ldAtHLR .h s
/-- LD (HL),L (R203). -/
def exec_ld_at_hl_l (s : State) : Result := ldAtHLR .l s
/-- LD (HL),A (R203). -/
def exec_ld_at_hl_a (s : State) : Result := ldAtHLR .a s
/-- LD A,B (R200). -/
def exec_ld_a_b (s : State) : Result := ldRR .a .b s
/-- LD A,C (R200). -/
def exec_ld_a_c (s : State) : Result := ldRR .a .c s
/-- LD A,D (R200). -/
def exec_ld_a_d (s : State) : Result := ldRR .a .d s
/-- LD A,E (R200). -/
def exec_ld_a_e (s : State) : Result := ldRR .a .e s
/-- LD A,H (R200). -/
def exec_ld_a_h (s : State) : Result := ldRR .a .h s
/-- LD A,L (R200). -/
def exec_ld_a_l (s : State) : Result := ldRR .a .l s
/-- LD A,(HL) (R202). -/
def exec_ld_a_at_hl (s : State) : Result := ldRAtHL .a s
/-- LD A,A (R200). -/
def exec_ld_a_a (s : State) : Result := ldRR .a .a s
/-- LDH (n),A (R212). -/
def exec_ldh_at_n_a (n : Byte) (s : State) : Result := ldhAtNA n s
/-- LD (C),A (R214). -/
def exec_ld_at_c_a (s : State) : Result := ldAtCA s
/-- LD (nn),A (R210). -/
def exec_ld_at_nn_a (nn : Word) (s : State) : Result := ldAtNnA nn s
/-- LDH A,(n) (R211). -/
def exec_ldh_a_at_n (n : Byte) (s : State) : Result := ldhAAtN n s
/-- LD A,(C) (R213). -/
def exec_ld_a_at_c (s : State) : Result := ldAAtC s
/-- LD A,(nn) (R209). -/
def exec_ld_a_at_nn (nn : Word) (s : State) : Result := ldAAtNn nn s

end Sys2Proof.Machine
end

