-- ==== Sys2Proof/Machine/RotateShiftBit.lean ====
section
/-! DEFINITION. Rotates, shifts and bit operations (45_rotate_shift_bit.md R300 to R326). The shared operation of each
rule comes first, then one meaning for each row of the opcode table, in the table's order. -/

namespace Sys2Proof.Machine

/-- RLCA, RRCA, RLA, RRA (R300 to R303). -/
def rotateA (o : RotateOp) (s : State) : Result :=
  let r := rotate8 o s.regs.a s.regs.flags.cy
  ((s.setA r.1).setFlags (rotateFlags r.2)).done 4

/-- The CB shifts of a register (R305, R307, ..., R319). -/
def shiftR (o : ShiftOp) (z : R8) (s : State) : Result :=
  let r := shift8 o (s.regs.r8 z) s.regs.flags.cy
  ((s.setR8 z r.1).setFlags (shiftFlags r.1 r.2)).done 8

/-- The CB shifts of the byte at HL (R306, R308, ..., R320). -/
def shiftAtHL (o : ShiftOp) (s : State) : Result :=
  let r := shift8 o s.atHL s.regs.flags.cy
  ((s.setAtHL r.1).setFlags (shiftFlags r.1 r.2)).done 16

/-- BIT b,r (R321). -/
def bitR (b : Fin 8) (z : R8) (s : State) : Result :=
  (s.setFlags (bitFlags (s.regs.r8 z) b s.regs.flags)).done 8

/-- BIT b,(HL) (R322): memory is read, not written. -/
def bitAtHL (b : Fin 8) (s : State) : Result := (s.setFlags (bitFlags s.atHL b s.regs.flags)).done 12

/-- RES b,r (R323). -/
def resR (b : Fin 8) (z : R8) (s : State) : Result := (s.setR8 z (s.regs.r8 z &&& ~~~bitMask b)).done 8

/-- RES b,(HL) (R324). -/
def resAtHL (b : Fin 8) (s : State) : Result := (s.setAtHL (s.atHL &&& ~~~bitMask b)).done 16

/-- SET b,r (R325). -/
def setR (b : Fin 8) (z : R8) (s : State) : Result := (s.setR8 z (s.regs.r8 z ||| bitMask b)).done 8

/-- SET b,(HL) (R326). -/
def setAtHL (b : Fin 8) (s : State) : Result := (s.setAtHL (s.atHL ||| bitMask b)).done 16

/-! ## One meaning for each row -/

/-- RLCA (R300). -/
def exec_rlca (s : State) : Result := rotateA .rlc s
/-- RRCA (R301). -/
def exec_rrca (s : State) : Result := rotateA .rrc s
/-- RLA (R302). -/
def exec_rla (s : State) : Result := rotateA .rl s
/-- RRA (R303). -/
def exec_rra (s : State) : Result := rotateA .rr s
/-- RLC B (R305). -/
def exec_rlc_b (s : State) : Result := shiftR .rlc .b s
/-- RLC C (R305). -/
def exec_rlc_c (s : State) : Result := shiftR .rlc .c s
/-- RLC D (R305). -/
def exec_rlc_d (s : State) : Result := shiftR .rlc .d s
/-- RLC E (R305). -/
def exec_rlc_e (s : State) : Result := shiftR .rlc .e s
/-- RLC H (R305). -/
def exec_rlc_h (s : State) : Result := shiftR .rlc .h s
/-- RLC L (R305). -/
def exec_rlc_l (s : State) : Result := shiftR .rlc .l s
/-- RLC (HL) (R306). -/
def exec_rlc_at_hl (s : State) : Result := shiftAtHL .rlc s
/-- RLC A (R305). -/
def exec_rlc_a (s : State) : Result := shiftR .rlc .a s
/-- RRC B (R307). -/
def exec_rrc_b (s : State) : Result := shiftR .rrc .b s
/-- RRC C (R307). -/
def exec_rrc_c (s : State) : Result := shiftR .rrc .c s
/-- RRC D (R307). -/
def exec_rrc_d (s : State) : Result := shiftR .rrc .d s
/-- RRC E (R307). -/
def exec_rrc_e (s : State) : Result := shiftR .rrc .e s
/-- RRC H (R307). -/
def exec_rrc_h (s : State) : Result := shiftR .rrc .h s
/-- RRC L (R307). -/
def exec_rrc_l (s : State) : Result := shiftR .rrc .l s
/-- RRC (HL) (R308). -/
def exec_rrc_at_hl (s : State) : Result := shiftAtHL .rrc s
/-- RRC A (R307). -/
def exec_rrc_a (s : State) : Result := shiftR .rrc .a s
/-- RL B (R309). -/
def exec_rl_b (s : State) : Result := shiftR .rl .b s
/-- RL C (R309). -/
def exec_rl_c (s : State) : Result := shiftR .rl .c s
/-- RL D (R309). -/
def exec_rl_d (s : State) : Result := shiftR .rl .d s
/-- RL E (R309). -/
def exec_rl_e (s : State) : Result := shiftR .rl .e s
/-- RL H (R309). -/
def exec_rl_h (s : State) : Result := shiftR .rl .h s
/-- RL L (R309). -/
def exec_rl_l (s : State) : Result := shiftR .rl .l s
/-- RL (HL) (R310). -/
def exec_rl_at_hl (s : State) : Result := shiftAtHL .rl s
/-- RL A (R309). -/
def exec_rl_a (s : State) : Result := shiftR .rl .a s
/-- RR B (R311). -/
def exec_rr_b (s : State) : Result := shiftR .rr .b s
/-- RR C (R311). -/
def exec_rr_c (s : State) : Result := shiftR .rr .c s
/-- RR D (R311). -/
def exec_rr_d (s : State) : Result := shiftR .rr .d s
/-- RR E (R311). -/
def exec_rr_e (s : State) : Result := shiftR .rr .e s
/-- RR H (R311). -/
def exec_rr_h (s : State) : Result := shiftR .rr .h s
/-- RR L (R311). -/
def exec_rr_l (s : State) : Result := shiftR .rr .l s
/-- RR (HL) (R312). -/
def exec_rr_at_hl (s : State) : Result := shiftAtHL .rr s
/-- RR A (R311). -/
def exec_rr_a (s : State) : Result := shiftR .rr .a s
/-- SLA B (R313). -/
def exec_sla_b (s : State) : Result := shiftR .sla .b s
/-- SLA C (R313). -/
def exec_sla_c (s : State) : Result := shiftR .sla .c s
/-- SLA D (R313). -/
def exec_sla_d (s : State) : Result := shiftR .sla .d s
/-- SLA E (R313). -/
def exec_sla_e (s : State) : Result := shiftR .sla .e s
/-- SLA H (R313). -/
def exec_sla_h (s : State) : Result := shiftR .sla .h s
/-- SLA L (R313). -/
def exec_sla_l (s : State) : Result := shiftR .sla .l s
/-- SLA (HL) (R314). -/
def exec_sla_at_hl (s : State) : Result := shiftAtHL .sla s
/-- SLA A (R313). -/
def exec_sla_a (s : State) : Result := shiftR .sla .a s
/-- SRA B (R315). -/
def exec_sra_b (s : State) : Result := shiftR .sra .b s
/-- SRA C (R315). -/
def exec_sra_c (s : State) : Result := shiftR .sra .c s
/-- SRA D (R315). -/
def exec_sra_d (s : State) : Result := shiftR .sra .d s
/-- SRA E (R315). -/
def exec_sra_e (s : State) : Result := shiftR .sra .e s
/-- SRA H (R315). -/
def exec_sra_h (s : State) : Result := shiftR .sra .h s
/-- SRA L (R315). -/
def exec_sra_l (s : State) : Result := shiftR .sra .l s
/-- SRA (HL) (R316). -/
def exec_sra_at_hl (s : State) : Result := shiftAtHL .sra s
/-- SRA A (R315). -/
def exec_sra_a (s : State) : Result := shiftR .sra .a s
/-- SWAP B (R317). -/
def exec_swap_b (s : State) : Result := shiftR .swap .b s
/-- SWAP C (R317). -/
def exec_swap_c (s : State) : Result := shiftR .swap .c s
/-- SWAP D (R317). -/
def exec_swap_d (s : State) : Result := shiftR .swap .d s
/-- SWAP E (R317). -/
def exec_swap_e (s : State) : Result := shiftR .swap .e s
/-- SWAP H (R317). -/
def exec_swap_h (s : State) : Result := shiftR .swap .h s
/-- SWAP L (R317). -/
def exec_swap_l (s : State) : Result := shiftR .swap .l s
/-- SWAP (HL) (R318). -/
def exec_swap_at_hl (s : State) : Result := shiftAtHL .swap s
/-- SWAP A (R317). -/
def exec_swap_a (s : State) : Result := shiftR .swap .a s
/-- SRL B (R319). -/
def exec_srl_b (s : State) : Result := shiftR .srl .b s
/-- SRL C (R319). -/
def exec_srl_c (s : State) : Result := shiftR .srl .c s
/-- SRL D (R319). -/
def exec_srl_d (s : State) : Result := shiftR .srl .d s
/-- SRL E (R319). -/
def exec_srl_e (s : State) : Result := shiftR .srl .e s
/-- SRL H (R319). -/
def exec_srl_h (s : State) : Result := shiftR .srl .h s
/-- SRL L (R319). -/
def exec_srl_l (s : State) : Result := shiftR .srl .l s
/-- SRL (HL) (R320). -/
def exec_srl_at_hl (s : State) : Result := shiftAtHL .srl s
/-- SRL A (R319). -/
def exec_srl_a (s : State) : Result := shiftR .srl .a s
/-- BIT 0,B (R321). -/
def exec_bit_0_b (s : State) : Result := bitR 0 .b s
/-- BIT 0,C (R321). -/
def exec_bit_0_c (s : State) : Result := bitR 0 .c s
/-- BIT 0,D (R321). -/
def exec_bit_0_d (s : State) : Result := bitR 0 .d s
/-- BIT 0,E (R321). -/
def exec_bit_0_e (s : State) : Result := bitR 0 .e s
/-- BIT 0,H (R321). -/
def exec_bit_0_h (s : State) : Result := bitR 0 .h s
/-- BIT 0,L (R321). -/
def exec_bit_0_l (s : State) : Result := bitR 0 .l s
/-- BIT 0,(HL) (R322). -/
def exec_bit_0_at_hl (s : State) : Result := bitAtHL 0 s
/-- BIT 0,A (R321). -/
def exec_bit_0_a (s : State) : Result := bitR 0 .a s
/-- BIT 1,B (R321). -/
def exec_bit_1_b (s : State) : Result := bitR 1 .b s
/-- BIT 1,C (R321). -/
def exec_bit_1_c (s : State) : Result := bitR 1 .c s
/-- BIT 1,D (R321). -/
def exec_bit_1_d (s : State) : Result := bitR 1 .d s
/-- BIT 1,E (R321). -/
def exec_bit_1_e (s : State) : Result := bitR 1 .e s
/-- BIT 1,H (R321). -/
def exec_bit_1_h (s : State) : Result := bitR 1 .h s
/-- BIT 1,L (R321). -/
def exec_bit_1_l (s : State) : Result := bitR 1 .l s
/-- BIT 1,(HL) (R322). -/
def exec_bit_1_at_hl (s : State) : Result := bitAtHL 1 s
/-- BIT 1,A (R321). -/
def exec_bit_1_a (s : State) : Result := bitR 1 .a s
/-- BIT 2,B (R321). -/
def exec_bit_2_b (s : State) : Result := bitR 2 .b s
/-- BIT 2,C (R321). -/
def exec_bit_2_c (s : State) : Result := bitR 2 .c s
/-- BIT 2,D (R321). -/
def exec_bit_2_d (s : State) : Result := bitR 2 .d s
/-- BIT 2,E (R321). -/
def exec_bit_2_e (s : State) : Result := bitR 2 .e s
/-- BIT 2,H (R321). -/
def exec_bit_2_h (s : State) : Result := bitR 2 .h s
/-- BIT 2,L (R321). -/
def exec_bit_2_l (s : State) : Result := bitR 2 .l s
/-- BIT 2,(HL) (R322). -/
def exec_bit_2_at_hl (s : State) : Result := bitAtHL 2 s
/-- BIT 2,A (R321). -/
def exec_bit_2_a (s : State) : Result := bitR 2 .a s
/-- BIT 3,B (R321). -/
def exec_bit_3_b (s : State) : Result := bitR 3 .b s
/-- BIT 3,C (R321). -/
def exec_bit_3_c (s : State) : Result := bitR 3 .c s
/-- BIT 3,D (R321). -/
def exec_bit_3_d (s : State) : Result := bitR 3 .d s
/-- BIT 3,E (R321). -/
def exec_bit_3_e (s : State) : Result := bitR 3 .e s
/-- BIT 3,H (R321). -/
def exec_bit_3_h (s : State) : Result := bitR 3 .h s
/-- BIT 3,L (R321). -/
def exec_bit_3_l (s : State) : Result := bitR 3 .l s
/-- BIT 3,(HL) (R322). -/
def exec_bit_3_at_hl (s : State) : Result := bitAtHL 3 s
/-- BIT 3,A (R321). -/
def exec_bit_3_a (s : State) : Result := bitR 3 .a s
/-- BIT 4,B (R321). -/
def exec_bit_4_b (s : State) : Result := bitR 4 .b s
/-- BIT 4,C (R321). -/
def exec_bit_4_c (s : State) : Result := bitR 4 .c s
/-- BIT 4,D (R321). -/
def exec_bit_4_d (s : State) : Result := bitR 4 .d s
/-- BIT 4,E (R321). -/
def exec_bit_4_e (s : State) : Result := bitR 4 .e s
/-- BIT 4,H (R321). -/
def exec_bit_4_h (s : State) : Result := bitR 4 .h s
/-- BIT 4,L (R321). -/
def exec_bit_4_l (s : State) : Result := bitR 4 .l s
/-- BIT 4,(HL) (R322). -/
def exec_bit_4_at_hl (s : State) : Result := bitAtHL 4 s
/-- BIT 4,A (R321). -/
def exec_bit_4_a (s : State) : Result := bitR 4 .a s
/-- BIT 5,B (R321). -/
def exec_bit_5_b (s : State) : Result := bitR 5 .b s
/-- BIT 5,C (R321). -/
def exec_bit_5_c (s : State) : Result := bitR 5 .c s
/-- BIT 5,D (R321). -/
def exec_bit_5_d (s : State) : Result := bitR 5 .d s
/-- BIT 5,E (R321). -/
def exec_bit_5_e (s : State) : Result := bitR 5 .e s
/-- BIT 5,H (R321). -/
def exec_bit_5_h (s : State) : Result := bitR 5 .h s
/-- BIT 5,L (R321). -/
def exec_bit_5_l (s : State) : Result := bitR 5 .l s
/-- BIT 5,(HL) (R322). -/
def exec_bit_5_at_hl (s : State) : Result := bitAtHL 5 s
/-- BIT 5,A (R321). -/
def exec_bit_5_a (s : State) : Result := bitR 5 .a s
/-- BIT 6,B (R321). -/
def exec_bit_6_b (s : State) : Result := bitR 6 .b s
/-- BIT 6,C (R321). -/
def exec_bit_6_c (s : State) : Result := bitR 6 .c s
/-- BIT 6,D (R321). -/
def exec_bit_6_d (s : State) : Result := bitR 6 .d s
/-- BIT 6,E (R321). -/
def exec_bit_6_e (s : State) : Result := bitR 6 .e s
/-- BIT 6,H (R321). -/
def exec_bit_6_h (s : State) : Result := bitR 6 .h s
/-- BIT 6,L (R321). -/
def exec_bit_6_l (s : State) : Result := bitR 6 .l s
/-- BIT 6,(HL) (R322). -/
def exec_bit_6_at_hl (s : State) : Result := bitAtHL 6 s
/-- BIT 6,A (R321). -/
def exec_bit_6_a (s : State) : Result := bitR 6 .a s
/-- BIT 7,B (R321). -/
def exec_bit_7_b (s : State) : Result := bitR 7 .b s
/-- BIT 7,C (R321). -/
def exec_bit_7_c (s : State) : Result := bitR 7 .c s
/-- BIT 7,D (R321). -/
def exec_bit_7_d (s : State) : Result := bitR 7 .d s
/-- BIT 7,E (R321). -/
def exec_bit_7_e (s : State) : Result := bitR 7 .e s
/-- BIT 7,H (R321). -/
def exec_bit_7_h (s : State) : Result := bitR 7 .h s
/-- BIT 7,L (R321). -/
def exec_bit_7_l (s : State) : Result := bitR 7 .l s
/-- BIT 7,(HL) (R322). -/
def exec_bit_7_at_hl (s : State) : Result := bitAtHL 7 s
/-- BIT 7,A (R321). -/
def exec_bit_7_a (s : State) : Result := bitR 7 .a s
/-- RES 0,B (R323). -/
def exec_res_0_b (s : State) : Result := resR 0 .b s
/-- RES 0,C (R323). -/
def exec_res_0_c (s : State) : Result := resR 0 .c s
/-- RES 0,D (R323). -/
def exec_res_0_d (s : State) : Result := resR 0 .d s
/-- RES 0,E (R323). -/
def exec_res_0_e (s : State) : Result := resR 0 .e s
/-- RES 0,H (R323). -/
def exec_res_0_h (s : State) : Result := resR 0 .h s
/-- RES 0,L (R323). -/
def exec_res_0_l (s : State) : Result := resR 0 .l s
/-- RES 0,(HL) (R324). -/
def exec_res_0_at_hl (s : State) : Result := resAtHL 0 s
/-- RES 0,A (R323). -/
def exec_res_0_a (s : State) : Result := resR 0 .a s
/-- RES 1,B (R323). -/
def exec_res_1_b (s : State) : Result := resR 1 .b s
/-- RES 1,C (R323). -/
def exec_res_1_c (s : State) : Result := resR 1 .c s
/-- RES 1,D (R323). -/
def exec_res_1_d (s : State) : Result := resR 1 .d s
/-- RES 1,E (R323). -/
def exec_res_1_e (s : State) : Result := resR 1 .e s
/-- RES 1,H (R323). -/
def exec_res_1_h (s : State) : Result := resR 1 .h s
/-- RES 1,L (R323). -/
def exec_res_1_l (s : State) : Result := resR 1 .l s
/-- RES 1,(HL) (R324). -/
def exec_res_1_at_hl (s : State) : Result := resAtHL 1 s
/-- RES 1,A (R323). -/
def exec_res_1_a (s : State) : Result := resR 1 .a s
/-- RES 2,B (R323). -/
def exec_res_2_b (s : State) : Result := resR 2 .b s
/-- RES 2,C (R323). -/
def exec_res_2_c (s : State) : Result := resR 2 .c s
/-- RES 2,D (R323). -/
def exec_res_2_d (s : State) : Result := resR 2 .d s
/-- RES 2,E (R323). -/
def exec_res_2_e (s : State) : Result := resR 2 .e s
/-- RES 2,H (R323). -/
def exec_res_2_h (s : State) : Result := resR 2 .h s
/-- RES 2,L (R323). -/
def exec_res_2_l (s : State) : Result := resR 2 .l s
/-- RES 2,(HL) (R324). -/
def exec_res_2_at_hl (s : State) : Result := resAtHL 2 s
/-- RES 2,A (R323). -/
def exec_res_2_a (s : State) : Result := resR 2 .a s
/-- RES 3,B (R323). -/
def exec_res_3_b (s : State) : Result := resR 3 .b s
/-- RES 3,C (R323). -/
def exec_res_3_c (s : State) : Result := resR 3 .c s
/-- RES 3,D (R323). -/
def exec_res_3_d (s : State) : Result := resR 3 .d s
/-- RES 3,E (R323). -/
def exec_res_3_e (s : State) : Result := resR 3 .e s
/-- RES 3,H (R323). -/
def exec_res_3_h (s : State) : Result := resR 3 .h s
/-- RES 3,L (R323). -/
def exec_res_3_l (s : State) : Result := resR 3 .l s
/-- RES 3,(HL) (R324). -/
def exec_res_3_at_hl (s : State) : Result := resAtHL 3 s
/-- RES 3,A (R323). -/
def exec_res_3_a (s : State) : Result := resR 3 .a s
/-- RES 4,B (R323). -/
def exec_res_4_b (s : State) : Result := resR 4 .b s
/-- RES 4,C (R323). -/
def exec_res_4_c (s : State) : Result := resR 4 .c s
/-- RES 4,D (R323). -/
def exec_res_4_d (s : State) : Result := resR 4 .d s
/-- RES 4,E (R323). -/
def exec_res_4_e (s : State) : Result := resR 4 .e s
/-- RES 4,H (R323). -/
def exec_res_4_h (s : State) : Result := resR 4 .h s
/-- RES 4,L (R323). -/
def exec_res_4_l (s : State) : Result := resR 4 .l s
/-- RES 4,(HL) (R324). -/
def exec_res_4_at_hl (s : State) : Result := resAtHL 4 s
/-- RES 4,A (R323). -/
def exec_res_4_a (s : State) : Result := resR 4 .a s
/-- RES 5,B (R323). -/
def exec_res_5_b (s : State) : Result := resR 5 .b s
/-- RES 5,C (R323). -/
def exec_res_5_c (s : State) : Result := resR 5 .c s
/-- RES 5,D (R323). -/
def exec_res_5_d (s : State) : Result := resR 5 .d s
/-- RES 5,E (R323). -/
def exec_res_5_e (s : State) : Result := resR 5 .e s
/-- RES 5,H (R323). -/
def exec_res_5_h (s : State) : Result := resR 5 .h s
/-- RES 5,L (R323). -/
def exec_res_5_l (s : State) : Result := resR 5 .l s
/-- RES 5,(HL) (R324). -/
def exec_res_5_at_hl (s : State) : Result := resAtHL 5 s
/-- RES 5,A (R323). -/
def exec_res_5_a (s : State) : Result := resR 5 .a s
/-- RES 6,B (R323). -/
def exec_res_6_b (s : State) : Result := resR 6 .b s
/-- RES 6,C (R323). -/
def exec_res_6_c (s : State) : Result := resR 6 .c s
/-- RES 6,D (R323). -/
def exec_res_6_d (s : State) : Result := resR 6 .d s
/-- RES 6,E (R323). -/
def exec_res_6_e (s : State) : Result := resR 6 .e s
/-- RES 6,H (R323). -/
def exec_res_6_h (s : State) : Result := resR 6 .h s
/-- RES 6,L (R323). -/
def exec_res_6_l (s : State) : Result := resR 6 .l s
/-- RES 6,(HL) (R324). -/
def exec_res_6_at_hl (s : State) : Result := resAtHL 6 s
/-- RES 6,A (R323). -/
def exec_res_6_a (s : State) : Result := resR 6 .a s
/-- RES 7,B (R323). -/
def exec_res_7_b (s : State) : Result := resR 7 .b s
/-- RES 7,C (R323). -/
def exec_res_7_c (s : State) : Result := resR 7 .c s
/-- RES 7,D (R323). -/
def exec_res_7_d (s : State) : Result := resR 7 .d s
/-- RES 7,E (R323). -/
def exec_res_7_e (s : State) : Result := resR 7 .e s
/-- RES 7,H (R323). -/
def exec_res_7_h (s : State) : Result := resR 7 .h s
/-- RES 7,L (R323). -/
def exec_res_7_l (s : State) : Result := resR 7 .l s
/-- RES 7,(HL) (R324). -/
def exec_res_7_at_hl (s : State) : Result := resAtHL 7 s
/-- RES 7,A (R323). -/
def exec_res_7_a (s : State) : Result := resR 7 .a s
/-- SET 0,B (R325). -/
def exec_set_0_b (s : State) : Result := setR 0 .b s
/-- SET 0,C (R325). -/
def exec_set_0_c (s : State) : Result := setR 0 .c s
/-- SET 0,D (R325). -/
def exec_set_0_d (s : State) : Result := setR 0 .d s
/-- SET 0,E (R325). -/
def exec_set_0_e (s : State) : Result := setR 0 .e s
/-- SET 0,H (R325). -/
def exec_set_0_h (s : State) : Result := setR 0 .h s
/-- SET 0,L (R325). -/
def exec_set_0_l (s : State) : Result := setR 0 .l s
/-- SET 0,(HL) (R326). -/
def exec_set_0_at_hl (s : State) : Result := setAtHL 0 s
/-- SET 0,A (R325). -/
def exec_set_0_a (s : State) : Result := setR 0 .a s
/-- SET 1,B (R325). -/
def exec_set_1_b (s : State) : Result := setR 1 .b s
/-- SET 1,C (R325). -/
def exec_set_1_c (s : State) : Result := setR 1 .c s
/-- SET 1,D (R325). -/
def exec_set_1_d (s : State) : Result := setR 1 .d s
/-- SET 1,E (R325). -/
def exec_set_1_e (s : State) : Result := setR 1 .e s
/-- SET 1,H (R325). -/
def exec_set_1_h (s : State) : Result := setR 1 .h s
/-- SET 1,L (R325). -/
def exec_set_1_l (s : State) : Result := setR 1 .l s
/-- SET 1,(HL) (R326). -/
def exec_set_1_at_hl (s : State) : Result := setAtHL 1 s
/-- SET 1,A (R325). -/
def exec_set_1_a (s : State) : Result := setR 1 .a s
/-- SET 2,B (R325). -/
def exec_set_2_b (s : State) : Result := setR 2 .b s
/-- SET 2,C (R325). -/
def exec_set_2_c (s : State) : Result := setR 2 .c s
/-- SET 2,D (R325). -/
def exec_set_2_d (s : State) : Result := setR 2 .d s
/-- SET 2,E (R325). -/
def exec_set_2_e (s : State) : Result := setR 2 .e s
/-- SET 2,H (R325). -/
def exec_set_2_h (s : State) : Result := setR 2 .h s
/-- SET 2,L (R325). -/
def exec_set_2_l (s : State) : Result := setR 2 .l s
/-- SET 2,(HL) (R326). -/
def exec_set_2_at_hl (s : State) : Result := setAtHL 2 s
/-- SET 2,A (R325). -/
def exec_set_2_a (s : State) : Result := setR 2 .a s
/-- SET 3,B (R325). -/
def exec_set_3_b (s : State) : Result := setR 3 .b s
/-- SET 3,C (R325). -/
def exec_set_3_c (s : State) : Result := setR 3 .c s
/-- SET 3,D (R325). -/
def exec_set_3_d (s : State) : Result := setR 3 .d s
/-- SET 3,E (R325). -/
def exec_set_3_e (s : State) : Result := setR 3 .e s
/-- SET 3,H (R325). -/
def exec_set_3_h (s : State) : Result := setR 3 .h s
/-- SET 3,L (R325). -/
def exec_set_3_l (s : State) : Result := setR 3 .l s
/-- SET 3,(HL) (R326). -/
def exec_set_3_at_hl (s : State) : Result := setAtHL 3 s
/-- SET 3,A (R325). -/
def exec_set_3_a (s : State) : Result := setR 3 .a s
/-- SET 4,B (R325). -/
def exec_set_4_b (s : State) : Result := setR 4 .b s
/-- SET 4,C (R325). -/
def exec_set_4_c (s : State) : Result := setR 4 .c s
/-- SET 4,D (R325). -/
def exec_set_4_d (s : State) : Result := setR 4 .d s
/-- SET 4,E (R325). -/
def exec_set_4_e (s : State) : Result := setR 4 .e s
/-- SET 4,H (R325). -/
def exec_set_4_h (s : State) : Result := setR 4 .h s
/-- SET 4,L (R325). -/
def exec_set_4_l (s : State) : Result := setR 4 .l s
/-- SET 4,(HL) (R326). -/
def exec_set_4_at_hl (s : State) : Result := setAtHL 4 s
/-- SET 4,A (R325). -/
def exec_set_4_a (s : State) : Result := setR 4 .a s
/-- SET 5,B (R325). -/
def exec_set_5_b (s : State) : Result := setR 5 .b s
/-- SET 5,C (R325). -/
def exec_set_5_c (s : State) : Result := setR 5 .c s
/-- SET 5,D (R325). -/
def exec_set_5_d (s : State) : Result := setR 5 .d s
/-- SET 5,E (R325). -/
def exec_set_5_e (s : State) : Result := setR 5 .e s
/-- SET 5,H (R325). -/
def exec_set_5_h (s : State) : Result := setR 5 .h s
/-- SET 5,L (R325). -/
def exec_set_5_l (s : State) : Result := setR 5 .l s
/-- SET 5,(HL) (R326). -/
def exec_set_5_at_hl (s : State) : Result := setAtHL 5 s
/-- SET 5,A (R325). -/
def exec_set_5_a (s : State) : Result := setR 5 .a s
/-- SET 6,B (R325). -/
def exec_set_6_b (s : State) : Result := setR 6 .b s
/-- SET 6,C (R325). -/
def exec_set_6_c (s : State) : Result := setR 6 .c s
/-- SET 6,D (R325). -/
def exec_set_6_d (s : State) : Result := setR 6 .d s
/-- SET 6,E (R325). -/
def exec_set_6_e (s : State) : Result := setR 6 .e s
/-- SET 6,H (R325). -/
def exec_set_6_h (s : State) : Result := setR 6 .h s
/-- SET 6,L (R325). -/
def exec_set_6_l (s : State) : Result := setR 6 .l s
/-- SET 6,(HL) (R326). -/
def exec_set_6_at_hl (s : State) : Result := setAtHL 6 s
/-- SET 6,A (R325). -/
def exec_set_6_a (s : State) : Result := setR 6 .a s
/-- SET 7,B (R325). -/
def exec_set_7_b (s : State) : Result := setR 7 .b s
/-- SET 7,C (R325). -/
def exec_set_7_c (s : State) : Result := setR 7 .c s
/-- SET 7,D (R325). -/
def exec_set_7_d (s : State) : Result := setR 7 .d s
/-- SET 7,E (R325). -/
def exec_set_7_e (s : State) : Result := setR 7 .e s
/-- SET 7,H (R325). -/
def exec_set_7_h (s : State) : Result := setR 7 .h s
/-- SET 7,L (R325). -/
def exec_set_7_l (s : State) : Result := setR 7 .l s
/-- SET 7,(HL) (R326). -/
def exec_set_7_at_hl (s : State) : Result := setAtHL 7 s
/-- SET 7,A (R325). -/
def exec_set_7_a (s : State) : Result := setR 7 .a s

end Sys2Proof.Machine
end

