-- ==== Sys2Proof/Machine/HostActs.lean ====
section
/-! DEFINITION. What the host may do between steps (60_exceptions.md R469 to R472; 70_reset_and_hazards.md R500 to R503):
load the images, pause, resume, reset. -/

namespace Sys2Proof.Machine

/-- Load a ROM and an optional BIOS and power on (R503, R500). -/
def State.load (rom : List Byte) (bios : Option (List Byte)) : State :=
  State.resetWith { rom := Image.ofBytes rom, bios := bios.map Image.ofBytes } 0 0

/-- The host sets Stopped (R471). The run state is one of Running, Halted and Stopped (10_state.md R27), so that a halted
CPU is Stopped and not Halted while it is paused; that it was halted is kept for the resume (log 8). -/
def State.hostPause (s : State) : State :=
  if s.ctl.stopped then s
  else { s with ctl := { s.ctl with stopped := true, halted := false, pausedHalted := s.ctl.halted } }

/-- The host clears Stopped, with everything else as it was, a halted CPU's wait with it (R471; log 8). -/
def State.hostResume (s : State) : State :=
  if s.ctl.stopped then
    { s with ctl := { s.ctl with stopped := false, halted := s.ctl.pausedHalted, pausedHalted := false } }
  else s

/-- The host requests a reset: the power-on reset, with the images kept, a new `ramInit` draw, and no call of the sink
(R500, R501; log 2, log 5). -/
def State.hostReset (s : State) : State :=
  { State.resetWith s.cart (s.ramDraw + 1) s.hostDraw with sink := s.sink }

/-- Put a byte where a fetch from `addr` reads it: into the image behind the address (made long enough to hold it) or into
its cell. A register or an unserved address holds no byte of the loader's (log 1). -/
def State.plantByte (s : State) (addr : Word) (v : Byte) : State :=
  match (s.setPc addr).locate addr with
  | .bios off => { s with cart := { s.cart with bios := s.cart.bios.map (fun img => img.set off v) } }
  | .rom off => { s with cart := { s.cart with rom := s.cart.rom.set off v } }
  | .cell key => s.setCell key v
  | .reg _ => s
  | .openBus => s

/-- Plant bytes from an address on. -/
def State.plantBytes (s : State) (addr : Word) : List Byte → State
  | [] => s
  | v :: rest => State.plantBytes (s.plantByte addr v) (addr + 1) rest

/-- The CPU is running: no fault recorded, not stopped, not halted. -/
def State.running (s : State) : State :=
  { s with ctl := { s.ctl with fault := none, stopped := false, halted := false, pausedHalted := false } }

/-- The bytes planted at PC of a machine that runs, so that its next step fetches them (log 1). -/
def State.loadAtPc (s : State) (bytes : List Byte) : State := s.running.plantBytes s.regs.pc bytes

end Sys2Proof.Machine
end

