-- ==== Sys2Proof/Machine/Step.lean ====
section
/-! DEFINITION. The step (60_exceptions.md R410), the one transition a run iterates. -/

namespace Sys2Proof.Machine

/-- Lines 3 to 8 for a CPU that executes an instruction: fetch, execute, and end the step. The fetch and the instruction's
own read of data take a draw of the joypad lines each (log 3). -/
def runInstruction (s : State) : Host.Outcome State Fault Refusal :=
  let fetched := s.fetchInstr
  match exec fetched.1 fetched.2.nextSnapshot with
  | .next t => .next t.endInstruction
  | .fault r => .fault r
  | .refused r => .refused r

/-- `step()` (R410): one instruction, or one halted grant, or nothing while stopped; no further step once a fault is
recorded. -/
def step (s : State) : Host.Outcome State Fault Refusal :=
  match s.ctl.fault with
  | some r => .fault (.illegalOpcode r.op r.addr)
  | none =>
    if s.ctl.stopped then .next s.heldStep
    else
      let begun := s.leaveBios
      if begun.waits then .next begun.haltedStep else runInstruction begun.wake

/-- The state with a row's word of spec/opcode_table.json stored where its next step fetches (log 1, log 11). -/
def State.withFetchWord (s : State) (nbits w : Nat) : State := s.loadAtPc (tableBytes nbits w)

end Sys2Proof.Machine
end

