-- ==== Sys2Proof/Safety.lean ====
section
/-! DEFINITION. What counts as a safe state, the invariant of a run, and the frame predicates the statements are made of:
what an instruction leaves unchanged. -/

namespace Sys2Proof.Machine

/-! ## Safe states -/

/-- No fault is recorded (60_exceptions.md R401; 93_implementation_defined.md I1: "a claim must take 'no fault recorded'
as a premise"). -/
abbrev State.Safe (s : State) : Prop := s.ctl.fault = none

/-- The CPU fetches in its next step: no fault, not stopped, and not waiting in Halted (60_exceptions.md R410 lines 1 to
3). -/
abbrev State.Fetches (s : State) : Prop := s.Safe ∧ s.ctl.stopped = false ∧ s.waits = false

/-! ## The invariant -/

/-- A recorded pixel lies on the screen (60_exceptions.md R465). -/
def SinkCall.onScreen : SinkCall → Bool
  | .setPixel x y _ => decide (x < Config.screenWidth) && decide (y < Config.screenHeight)
  | .draw => true

/-- The line counter agrees with the mode: lines 0 to 143 outside vBlank, 0 to 153 in it (60_exceptions.md R456, R457;
10_state.md R35). -/
def Ppu.lineOk (p : Ppu) : Bool :=
  match p.mode with
  | .vBlank => decide (p.ly.toNat ≤ 153)
  | _ => decide (p.ly.toNat ≤ 143)

/-- The PPU's state between steps: the clock below its mode's threshold (60_exceptions.md R450, R453), the line in
range, and, after an advance that found the LCD off, line 0 in vBlank at clock 0 (R451). -/
def Ppu.ok (p : Ppu) : Bool :=
  decide (p.modeClock < p.mode.threshold) && p.lineOk &&
    (!p.lcdWasOff || (decide (p.ly = 0) && decide (p.modeClock = 0) && decide (p.mode = .vBlank)))

/-- The invariant of a run: memory in its canonical form, a ROM bank that is never 0 (10_state.md R38), the accumulators in
range (R39), the PPU as above, every pixel on the screen, not both Halted and Stopped (R27), a pause recorded in Stopped
alone (log 8), eiDelay run down to at most 1 between steps (60_exceptions.md R414), a BIOS behind the overlay (10_state.md
R31), and a returned cycle count that is a multiple of 4, at most 44 (60_exceptions.md R415). -/
def State.inv (s : State) : Bool :=
  Memory.wf unlistedCell s.mem && decide (s.mbc.romBank ≠ 0) && decide (s.timer.divAcc < 256) &&
    decide (s.timer.timaAcc < 1024) && s.ppu.ok && s.sink.all SinkCall.onScreen && !(s.ctl.halted && s.ctl.stopped) &&
    (!s.ctl.pausedHalted || s.ctl.stopped) &&
    decide (s.ctl.eiDelay ≠ 2) && (!s.ctl.inBios || s.cart.bios.isSome) &&
    decide (s.ctl.cycles % 4 = 0) && decide (s.ctl.cycles ≤ 44)

/-- `State.inv` as a proposition. -/
abbrev State.Inv (s : State) : Prop := s.inv = true

/-! ## Frames -/

/-- Every 8-bit register but those listed is unchanged. -/
def KeepsRegisters (s t : State) (but : List R8) : Prop := ∀ r, r ∉ but → t.regs.r8 r = s.regs.r8 r

/-- The CPU's control state is unchanged: run state, IME, eiDelay, fault, inBios, and the model's
record of a pause (log 8). `cycles` is what every instruction sets. -/
def KeepsControl (s t : State) : Prop :=
  t.ctl.halted = s.ctl.halted ∧ t.ctl.stopped = s.ctl.stopped ∧ t.ctl.ime = s.ctl.ime ∧ t.ctl.eiDelay = s.ctl.eiDelay ∧
    t.ctl.fault = s.ctl.fault ∧ t.ctl.inBios = s.ctl.inBios ∧ t.ctl.pausedHalted = s.ctl.pausedHalted

/-- Everything outside the CPU and the memory arrays is unchanged: interrupt controller, timer, PPU, MBC, JOYP, images,
sink, and the numbers of the free values. -/
def KeepsDevices (s t : State) : Prop :=
  t.irq = s.irq ∧ t.timer = s.timer ∧ t.ppu = s.ppu ∧ t.mbc = s.mbc ∧ t.joypSelect = s.joypSelect ∧ t.cart = s.cart ∧
    t.sink = s.sink ∧ t.ramDraw = s.ramDraw ∧ t.hostDraw = s.hostDraw

/-- Every address reads as before, whatever PC is (PC decides whether the BIOS overlay serves the read), and every cell of
every RAM array holds what it held. -/
def KeepsBytes (s t : State) : Prop :=
  (∀ pc a, (t.setPc pc).memRead a = (s.setPc pc).memRead a) ∧ ∀ key, t.cell key = s.cell key

/-- The instruction stores nothing and touches no device. -/
def StoresNothing (s t : State) : Prop := KeepsDevices s t ∧ KeepsBytes s t

/-- A write to `a` may change what a read of `b` gives: below 0x8000 an MBC1 control write may switch the banks behind ROM
and cartridge RAM (20_memory.md R80, R88 to R91); elsewhere `b` selects the same storage (echo RAM, R94; a cartridge RAM
smaller than its window, R82). -/
def State.touches (s : State) (a b : Word) : Prop :=
  if a.toNat < 0x8000 then
    s.cart.mbcType = .mbc1 ∧ (b.toNat < 0x8000 ∨ (0xA000 ≤ b.toNat ∧ b.toNat < 0xC000))
  else s.locate b = s.locate a

/-- The instruction stores to the addresses `stored` and changes nothing else outside the CPU: every address that none of
them touches reads as before, whatever PC is; every cell none of them selects holds what it held; and the state no read
shows is unchanged, but for `divAcc` where DIV is written (20_memory.md R99) and the MBC's registers where an address is
below 0x8000. -/
def StoresOnly (s t : State) (stored : List Word) : Prop :=
  (∀ pc b, (∀ a ∈ stored, ¬ s.touches a b) → (t.setPc pc).memRead b = (s.setPc pc).memRead b) ∧
    (∀ key, (∀ a ∈ stored, s.locate a ≠ .cell key) → t.cell key = s.cell key) ∧
    ((∀ a ∈ stored, s.locate a ≠ .reg .div) → t.timer.divAcc = s.timer.divAcc) ∧
    ((∀ a ∈ stored, 0x8000 ≤ a.toNat) → t.mbc = s.mbc) ∧
    t.timer.timaAcc = s.timer.timaAcc ∧ t.ppu.mode = s.ppu.mode ∧ t.ppu.modeClock = s.ppu.modeClock ∧
    t.ppu.coincidence = s.ppu.coincidence ∧ t.ppu.lcdWasOff = s.ppu.lcdWasOff ∧ t.cart = s.cart ∧ t.sink = s.sink ∧
    t.ramDraw = s.ramDraw ∧ t.hostDraw = s.hostDraw

/-- The instruction changes only the 8-bit registers listed, and the flags as the statement says, in `cycles` cycles: SP,
PC, the control state, memory and the devices are unchanged. -/
def ChangesOnly (s t : State) (but : List R8) (cycles : Nat) : Prop :=
  KeepsRegisters s t but ∧ t.regs.sp = s.regs.sp ∧ t.regs.pc = s.regs.pc ∧ KeepsControl s t ∧ t.ctl.cycles = cycles ∧
    StoresNothing s t

/-- The instruction puts `v` in the 8-bit register `dst` and changes nothing else, no flag included. -/
def LoadsRegister (s t : State) (dst : R8) (v : Byte) (cycles : Nat) : Prop :=
  t.regs.r8 dst = v ∧ t.regs.flags = s.regs.flags ∧ ChangesOnly s t [dst] cycles

/-- The 8-bit registers a pair is made of (10_state.md R21). -/
def pairHalves : Pair → List R8
  | .bc => [.b, .c]
  | .de => [.d, .e]
  | .hl => [.h, .l]
  | .sp => []

/-- The 8-bit registers a stack pair is made of; the low half of AF is the flags (10_state.md R21). -/
def stackPairHalves : StackPair → List R8
  | .bc => [.b, .c]
  | .de => [.d, .e]
  | .hl => [.h, .l]
  | .af => [.a]

/-- The instruction puts `v` in the pair `rr` and changes nothing else, but for the flags as the statement says. -/
def SetsPair (s t : State) (rr : Pair) (v : Word) (cycles : Nat) : Prop :=
  t.regs.pair rr = v ∧ KeepsRegisters s t (pairHalves rr) ∧ (rr ≠ .sp → t.regs.sp = s.regs.sp) ∧
    t.regs.pc = s.regs.pc ∧ KeepsControl s t ∧ t.ctl.cycles = cycles ∧ StoresNothing s t

/-- The instruction stores the byte `v` at `a` and leaves the CPU's registers as `g`: no control state changes, nothing
outside the storage `a` selects changes, and a cell that `a` selects holds `v`. -/
def StoresByte (s t : State) (a : Word) (v : Byte) (g : Regs) (cycles : Nat) : Prop :=
  t = { s.memWrite a v with regs := g, ctl := { s.ctl with cycles := cycles } } ∧ StoresOnly s t [a] ∧
    ∀ key, s.locate a = .cell key → t.cell key = v

/-- The instruction pushes `v` (42_load16.md R233) and sets PC to `target`: the high byte is written at SP - 1 first, then
the low byte at SP - 2, SP is two lower; no other register, no flag and no control state changes. -/
def Pushes (s t : State) (v target : Word) (cycles : Nat) : Prop :=
  t = { (s.memWrite (s.regs.sp - 1) (highByte v)).memWrite (s.regs.sp - 2) (lowByte v) with
        regs := { s.regs with sp := s.regs.sp - 2, pc := target }
        ctl := { s.ctl with cycles := cycles } } ∧
    StoresOnly s t [s.regs.sp - 1, s.regs.sp - 2]

/-- No register but PC and SP changes, no flag changes, nothing is stored. -/
def Transfers (s t : State) (target sp : Word) (cycles : Nat) : Prop :=
  t.regs.pc = target ∧ t.regs.sp = sp ∧ KeepsRegisters s t [] ∧ t.regs.flags = s.regs.flags ∧ t.ctl.cycles = cycles ∧
    StoresNothing s t

/-- The instruction jumps to `target` and does nothing else. -/
def Jumps (s t : State) (target : Word) (cycles : Nat) : Prop :=
  Transfers s t target s.regs.sp cycles ∧ KeepsControl s t

/-- The instruction pops PC: the low byte at SP, the high byte at SP + 1, SP two higher (42_load16.md R234). -/
def PopsPc (s t : State) (cycles : Nat) : Prop :=
  Transfers s t (joinBytes (s.memRead (s.regs.sp + 1)) (s.memRead s.regs.sp)) (s.regs.sp + 2) cycles

/-! ## The formulas of the rules -/

/-- The condition's flag has the value that makes it true (30_encoding.md R138). -/
def CondTrue (f : Flags) : Cond → Prop
  | .nz => f.z = false
  | .z => f.z = true
  | .nc => f.cy = false
  | .c => f.cy = true

/-- A flag or a bit as a byte, 0 or 1. -/
def bitByte (b : Bool) : Byte := if b then 1 else 0

/-- The result column of 45_rotate_shift_bit.md R304. -/
def shiftResult (o : ShiftOp) (v : Byte) (cy : Bool) : Byte :=
  match o with
  | .rlc => (v <<< 1) ||| bitByte (v.getLsbD 7)
  | .rrc => (v >>> 1) ||| (bitByte (v.getLsbD 0) <<< 7)
  | .rl => (v <<< 1) ||| bitByte cy
  | .rr => (v >>> 1) ||| (bitByte cy <<< 7)
  | .sla => v <<< 1
  | .sra => (v >>> 1) ||| (v &&& 0x80)
  | .swap => ((v &&& 0x0F) <<< 4) ||| (v >>> 4)
  | .srl => v >>> 1

/-- The carry-out column of 45_rotate_shift_bit.md R304. -/
def shiftCarryOut (o : ShiftOp) (v : Byte) : Bool :=
  match o with
  | .rlc | .rl | .sla => v.getLsbD 7
  | .rrc | .rr | .sra | .srl => v.getLsbD 0
  | .swap => false

/-- The forms of the 8-bit ALU operations (43_alu8.md R252): the operand, the instruction's bytes and its cycles. -/
def AluForm (i : Instr) (o : AluOp) (s : State) (v : Byte) (bytes : List Byte) (cycles : Nat) : Prop :=
  (∃ src, i.shape = .aluR o src ∧ v = s.regs.r8 src ∧ bytes = [2#2 ++ o.code ++ src.code] ∧ cycles = 4) ∨
    (i.shape = .aluAtHL o ∧ v = s.memRead s.regs.hl ∧ bytes = [2#2 ++ o.code ++ 6#3] ∧ cycles = 8) ∨
    (∃ n, i.shape = .aluN o n ∧ v = n ∧ bytes = [3#2 ++ o.code ++ 6#3, n] ∧ cycles = 8)

/-- Interrupt `i` is requested and enabled, and no lower-numbered one is (60_exceptions.md R422). -/
def ServedNext (s : State) (i : Source) : Prop :=
  s.irq.ie.getLsbD i.bit = true ∧ s.irq.iflag.getLsbD i.bit = true ∧
    ∀ j : Source, j.bit < i.bit → s.irq.ie.getLsbD j.bit = false ∨ s.irq.iflag.getLsbD j.bit = false

/-- An advance of the PPU leads to this mode, line and clock, calls the sink so, and requests the interrupts `requests`;
then LY is compared with LYC, and a rising coincidence with STAT bit 6 set requests lcdStat (60_exceptions.md R460). -/
def PpuMoves (s t : State) (mode : PpuMode) (ly : Byte) (clock : Nat) (calls : List SinkCall) (requests : BitVec 5) :
    Prop :=
  t = { s with
        ppu := { s.ppu with mode := mode, ly := ly, modeClock := clock, coincidence := decide (ly = s.ppu.lyc) }
        sink := s.sink ++ calls
        irq := { s.irq with
                 iflag := s.irq.iflag ||| requests |||
                   (if ly = s.ppu.lyc ∧ s.ppu.coincidence = false ∧ s.ppu.statEnable.getLsbD 3 = true then 0b00010
                    else 0) } }

/-- The addresses that store any byte and have no other effect: VRAM, work RAM and its echo, OAM, the plain I/O cells, high
RAM (20_memory.md R81, R83, R94, R95, R97, R104; 10_state.md R37). -/
def IsStorage (n : Nat) : Prop :=
  (0x8000 ≤ n ∧ n < 0xA000) ∨ (0xC000 ≤ n ∧ n < 0xFEA0) ∨ (0xFF80 ≤ n ∧ n < 0xFFFF) ∨
    (0xFF00 ≤ n ∧ n < 0xFF80 ∧
      n ∉ [0xFF00, 0xFF04, 0xFF05, 0xFF06, 0xFF07, 0xFF0F, 0xFF40, 0xFF41, 0xFF42, 0xFF43, 0xFF44, 0xFF45, 0xFF47, 0xFF48,
        0xFF49, 0xFF4A, 0xFF4B])

/-- The address whose storage an address selects: echo RAM is work RAM 0x2000 lower (20_memory.md R94). -/
def echoHome (n : Nat) : Nat := if 0xE000 ≤ n ∧ n < 0xFE00 then n - 0x2000 else n

/-- The instruction `i` is what the bytes at PC decode to, for a step that fetches: each byte read with PC at its address,
after line 2 of the step and the wake (60_exceptions.md R410). -/
def State.FetchesInstr (s : State) (i : Instr) : Prop :=
  s.Fetches ∧ ∃ rest, decode [s.leaveBios.wake.codeByte s.regs.pc, s.leaveBios.wake.codeByte (s.regs.pc + 1),
    s.leaveBios.wake.codeByte (s.regs.pc + 2)] = .ok (i, rest)

/-- The state in which a step executes the instruction it fetched: PC past the instruction's bytes, and the draw of the
joypad lines that the fetch may have taken behind it (log 3). -/
def State.fetched (s : State) (i : Instr) : State :=
  (s.leaveBios.wake.setPc (s.regs.pc + BitVec.ofNat 16 (encode i).length)).nextSnapshot

/-- Lines 6 and 7 of the step for an instruction or halted grant of `c` cycles: the timer, the PPU, the interrupt check. -/
def State.afterInstr (s : State) (c : Nat) : State := ((s.advanceTimer c).advancePpu c).serveInterrupt

end Sys2Proof.Machine
end

