-- ==== Sys2Proof/Certificates/Slice0/Obligations.lean ====
section
/-! DEFINITION. The statements for the provers, each formalising rules of spec/: encodings, the step, one statement for each
group of instructions of one shape (its operands' encodings, the next state it completes with, its flags, its frame and
its cycles), the interrupts, the timer, the PPU, the memory map, reset, and the invariant of a run.

In an instruction statement PC is already past the instruction (10_state.md R26); `StepRunsDecodedInstruction` says how a
step gets there. `cycles` is the model's record of the count the step returns (log 6). -/

section

open Sys2Proof Sys2Proof.Machine

/-! ## Encoding -/

/-- 30_encoding.md R133, R136 to R140, R147: decoding the bytes of any instruction, with every operand at every value,
gives that instruction back and leaves the bytes after it. -/
def Obligations.DecodeEncodeRoundTrip : Prop :=
  ∀ (i : Instr) (rest : List Byte), decode (encode i ++ rest) = .ok (i, rest)

/-- 30_encoding.md R140, R147: bytes have one meaning. What decodes to an instruction begins with exactly the bytes that
instruction encodes to; with `DecodeEncodeRoundTrip`, no two byte sequences stand for one instruction. -/
def Obligations.EncodeDecodeRoundTrip : Prop :=
  ∀ (bytes : List Byte) (i : Instr) (rest : List Byte), decode bytes = .ok (i, rest) → encode i ++ rest = bytes

/-- 30_encoding.md R130, R134, R145, R146: an instruction is 1, 2 or 3 bytes, and its first byte alone fixes how many: 2 for
the prefix 0xCB, 1 for an illegal opcode. The instructions that are not well formed are exactly those of the eleven illegal
bytes; every other byte, and every byte after the prefix 0xCB, begins or completes a well-formed instruction. -/
def Obligations.OpcodeSpaceIsFull : Prop :=
  (∀ i : Instr, ∃ op tail, encode i = op :: tail ∧ (encode i).length = instrLength op ∧
      (i.wellFormed = false → tail = [])) ∧
    (∀ op : Byte, instrLength op = 1 ∨ instrLength op = 2 ∨ instrLength op = 3) ∧ instrLength 0xCB = 2 ∧
    ∀ op n m : Byte, ∃ i rest, decode [op, n, m] = .ok (i, rest) ∧
      (i.wellFormed = false ↔
        op ∈ ([0xD3, 0xDB, 0xDD, 0xE3, 0xE4, 0xEB, 0xEC, 0xED, 0xF4, 0xFC, 0xFD] : List Byte))

/-- Words written out from the rules' "Encoding" lines (41_load8.md R200, R209; 42_load16.md R233; 43_alu8.md R261, R278;
44_alu16.md R293; 45_rotate_shift_bit.md R317, R322; 46_control.md R334; 47_cpu_control.md R352, R353). -/
def Obligations.SpecWordsDecode : Prop :=
  decode [0b01111000] = .ok (.ld_a_b, []) ∧ decode [0b11111010, 0x23, 0xC1] = .ok (.ld_a_at_nn 0xC123, []) ∧
    decode [0b11110101] = .ok (.push_af, []) ∧ decode [0b11010110, 0x0F] = .ok (.sub_n 0x0F, []) ∧
    decode [0b00110100] = .ok (.inc_at_hl, []) ∧ decode [0b11101000, 0xFE] = .ok (.add_sp_e 0xFE, []) ∧
    decode [0xCB, 0b00110111] = .ok (.swap_a, []) ∧ decode [0xCB, 0b01100110] = .ok (.bit_4_at_hl, []) ∧
    decode [0b00100000, 0xFC] = .ok (.jr_nz_e 0xFC, []) ∧ decode [0b00010000, 0x00] = .ok (.stop 0x00, []) ∧
    decode [0b11110011] = .ok (.di, [])

/-! ## The step -/

/-- 60_exceptions.md R410 lines 2 to 8, 30_encoding.md R131: a step that fetches the instruction `i` is `exec i`, which
answers a next state, with PC past its bytes; then, unless that state has a fault recorded, the EI counter is run down
(line 5), the timer and the PPU advance by the instruction's cycles (line 6), and the interrupt check runs (line 7). Two
things here are the model's choice: that `exec` of an illegal opcode answers a next state, and so the second clause, where
the spec's step returns the fault (notes/assumptions/9.md); and the numbering of the joypad draws by `State.fetched` and
`nextSnapshot` (notes/assumptions/3.md). -/
def Obligations.StepRunsDecodedInstruction : Prop :=
  ∀ (s : State) (i : Instr), s.FetchesInstr i →
    ∃ t, exec i (s.fetched i) = .next t ∧
      (t.ctl.fault = none → step s = .next (t.eiUpdate.nextSnapshot.afterInstr t.ctl.cycles)) ∧
      (t.ctl.fault ≠ none → step s = .next t)

/-- 60_exceptions.md R401, R410 line 1, 10_state.md R30: a machine with a fault recorded has no further step, and nothing
else ever stops one: every step of a machine without one answers a next state, and none refuses. That this holds of the
step which meets an illegal opcode, where R410 line 4 returns the fault in that step, is the model's choice
(notes/assumptions/9.md). -/
def Obligations.OnlyARecordedFaultEndsTheRun : Prop :=
  (∀ (s : State) (r : IllegalOpcode), s.ctl.fault = some r → step s = .fault (.illegalOpcode r.op r.addr)) ∧
    ∀ s : State, s.Safe → ∃ t, step s = .next t

/-- 60_exceptions.md R401, 47_cpu_control.md R355: the step that fetches an illegal opcode records the byte and its
address, leaves PC past it and changes nothing else: the timer and the PPU are not advanced, no interrupt is checked, the
sink is not called; and there is no further step. That the recording step is a next state, with a cycle count of 0, is the
model's choice (log 6, log 9), and so is that the fetch takes a draw of the joypad lines (log 3). -/
def Obligations.IllegalOpcodeStopsTheMachine : Prop :=
  ∀ (s : State) (i : Instr) (op : Byte), i.shape = .illegal op → s.FetchesInstr i →
    ∃ t, step s = .next t ∧
      t = { s.leaveBios with
            regs := { s.regs with pc := s.regs.pc + 1 }
            ctl := { s.leaveBios.ctl with
                     halted := false, fault := some { op := op, addr := s.regs.pc }, cycles := 0 }
            hostDraw := s.hostDraw + 1 } ∧
      step t = .fault (.illegalOpcode op s.regs.pc)

/-- 60_exceptions.md R413: a stopped step does nothing and returns 0 cycles, whatever is pending; the machine stays
stopped until the host resumes it or resets it. The count is the field `cycles` (log 6). -/
def Obligations.StoppedStepDoesNothing : Prop :=
  ∀ s : State, s.Safe → s.ctl.stopped = true →
    ∃ t, step s = .next t ∧ t = { s with ctl := { s.ctl with cycles := 0 } } ∧ t.returned? = .cycles 0 ∧
      step t = .next t ∧ t.hostResume.ctl.stopped = false ∧ t.hostReset.ctl.stopped = false

/-- 60_exceptions.md R411: a halted step with nothing pending that is enabled, whatever IME is, fetches nothing and
advances the timer and the PPU by 4 cycles; it returns 4, or, if that advance raised an enabled request while IME is 1,
serves it, clears Halted and returns 24. The count is the field `cycles` (log 6); `hostDraw` is the model's number of the
next joypad draw (log 3). -/
def Obligations.HaltedStepGrantsFourCycles : Prop :=
  ∀ s : State, s.Safe → s.ctl.stopped = false → s.ctl.halted = true → s.irq.ie &&& s.irq.iflag = 0 →
    ∃ t, step s = .next t ∧
      let u := ((s.leaveBios.took 4).advanceTimer 4).advancePpu 4
      u.ctl.halted = true ∧ u.regs = s.regs ∧ u.mem = s.mem ∧ u.hostDraw = s.hostDraw ∧
      ((s.ctl.ime = false ∨ u.irq.ie &&& u.irq.iflag = 0) → t = u ∧ t.returned? = .cycles 4) ∧
      (s.ctl.ime = true → ∀ i, ServedNext u i →
        t = (((u.takeInterrupt i).took 24).advanceTimer 20).advancePpu 20 ∧ t.ctl.halted = false ∧
        t.regs.pc = i.vector ∧ t.returned? = .cycles 24)

/-- 60_exceptions.md R412: with a request pending that is enabled, a halted step, at no cost, is the step of the machine
that was not halted: it fetches and executes the instruction at PC. That a next state answers even where that instruction is
an illegal opcode is the model's choice (notes/assumptions/9.md). -/
def Obligations.PendingRequestWakesHaltedCpu : Prop :=
  ∀ s : State, s.Safe → s.ctl.stopped = false → s.ctl.halted = true → s.irq.ie &&& s.irq.iflag ≠ 0 →
    step s = step { s with ctl := { s.ctl with halted := false } } ∧ ∃ t, step s = .next t

/-- 47_cpu_control.md R354, 60_exceptions.md R414: the step that executes EI with IME 0 and no enable pending serves no
interrupt and leaves IME 0; the step of the instruction after EI, whatever it is but DI or an illegal opcode, makes IME 1
before its own interrupt check. That the model's number of the next joypad draw, `hostDraw`, is one more after it is the
model's choice (notes/assumptions/3.md). -/
def Obligations.EiDelaysByOneInstruction : Prop :=
  (∀ s : State, s.FetchesInstr .ei → s.ctl.ime = false → s.ctl.eiDelay = 0 →
    ∃ t, step s = .next t ∧ t.ctl.ime = false ∧ t.ctl.eiDelay = 1 ∧ t.ctl.halted = false ∧ t.ctl.stopped = false ∧
      t.ctl.fault = none ∧ t.regs = { s.regs with pc := s.regs.pc + 1 } ∧ t.mem = s.mem ∧ t.ctl.cycles = 4) ∧
  (∀ (s : State) (i : Instr), s.FetchesInstr i → s.ctl.eiDelay = 1 → i ≠ .di → i.wellFormed = true →
    ∃ t, exec i (s.fetched i) = .next t ∧
      step s = .next
        (State.afterInstr { t with ctl := { t.ctl with ime := true, eiDelay := 0 }, hostDraw := t.hostDraw + 1 }
          t.ctl.cycles))

/-- 10_state.md R28: in a step that begins with IME 0 and ends with IME 1, either EI's delay ran out or RETI ran. -/
def Obligations.OnlyEiAndRetiEnableInterrupts : Prop :=
  ∀ s t : State, step s = .next t → s.ctl.ime = false → t.ctl.ime = true →
    s.ctl.eiDelay = 1 ∨ s.FetchesInstr .reti

/-- 60_exceptions.md R423: entry for the interrupt `i` that the check of a step serves: IME is cleared, the IF bit is
cleared, PC is pushed (a store like any other, after the bit is cleared), PC is the fixed vector 0x40 + 8i, Halted is
cleared, 20 cycles are charged and fed to the timer and the PPU; no other register, flag or control state changes. -/
def Obligations.InterruptEntry : Prop :=
  ∀ (s : State) (i : Source), s.ctl.ime = true → ServedNext s i →
    ∃ acked u : State,
      acked = { s with
                ctl := { s.ctl with ime := false }
                irq := { s.irq with iflag := s.irq.iflag &&& ~~~(1#5 <<< i.bit) } } ∧
      Pushes acked u s.regs.pc (BitVec.ofNat 16 (0x40 + 8 * i.bit)) s.ctl.cycles ∧
      s.serveInterrupt =
        (State.advanceTimer
          { u with ctl := { u.ctl with halted := false, cycles := s.ctl.cycles + 20 } } 20).advancePpu 20

/-- 60_exceptions.md R421, R422: an interrupt is served only if its IE bit, its IF bit and IME are all set. With IME 0, or
with nothing both requested and enabled, the check changes nothing; and with IME 1 whatever is both requested and enabled,
some source is served: the lowest-numbered one. -/
def Obligations.InterruptCheckServesOnlyEnabledRequests : Prop :=
  ∀ s : State, ((s.ctl.ime = false ∨ s.irq.ie &&& s.irq.iflag = 0) → s.serveInterrupt = s) ∧
    (s.irq.ie &&& s.irq.iflag ≠ 0 → ∃ i, ServedNext s i ∧ ∀ j, ServedNext s j → j = i)

/-- 60_exceptions.md R415: a step without a fault returns a multiple of 4 cycles from 4 to 44, or 0 while Stopped. The
count is the field `cycles` of the state it leads to (log 6). -/
def Obligations.StepReturnsItsCycles : Prop :=
  ∀ s t : State, step s = .next t → t.ctl.fault = none →
    (s.ctl.stopped = true → t.ctl.cycles = 0) ∧
    (s.ctl.stopped = false → t.ctl.cycles % 4 = 0 ∧ 4 ≤ t.ctl.cycles ∧ t.ctl.cycles ≤ 44)

/-! ## 8-bit loads -/

/-- 41_load8.md R200, R201, R202: LD r,r'; LD r,n; LD r,(HL), for every register, itself included. -/
def Obligations.LoadRegister : Prop :=
  (∀ i dst src, i.shape = .ldRR dst src → encode i = [1#2 ++ dst.code ++ src.code] ∧
    ∀ s, ∃ t, exec i s = .next t ∧ LoadsRegister s t dst (s.regs.r8 src) 4) ∧
  (∀ i dst n, i.shape = .ldRN dst n → encode i = [0#2 ++ dst.code ++ 6#3, n] ∧
    ∀ s, ∃ t, exec i s = .next t ∧ LoadsRegister s t dst n 8) ∧
  (∀ i dst, i.shape = .ldRAtHL dst → encode i = [1#2 ++ dst.code ++ 6#3] ∧
    ∀ s, ∃ t, exec i s = .next t ∧ LoadsRegister s t dst (s.memRead s.regs.hl) 8)

/-- 41_load8.md R203, R204: LD (HL),r, for H and L too, and LD (HL),n. -/
def Obligations.StoreAtHl : Prop :=
  (∀ i src, i.shape = .ldAtHLR src → encode i = [0b01110#5 ++ src.code] ∧
    ∀ s, ∃ t, exec i s = .next t ∧ StoresByte s t s.regs.hl (s.regs.r8 src) s.regs 8) ∧
  (∀ n, encode (.ld_at_hl_n n) = [0x36, n] ∧
    ∀ s, ∃ t, exec (.ld_at_hl_n n) s = .next t ∧ StoresByte s t s.regs.hl n s.regs 12)

/-- 41_load8.md R205, R206, R209, R211, R213: the loads of A from (BC), (DE), (nn), (0xFF00 + n) and (0xFF00 + C). -/
def Obligations.LoadAccumulator : Prop :=
  (encode .ld_a_at_bc = [0x0A] ∧
    ∀ s, ∃ t, exec .ld_a_at_bc s = .next t ∧ LoadsRegister s t .a (s.memRead s.regs.bc) 8) ∧
  (encode .ld_a_at_de = [0x1A] ∧
    ∀ s, ∃ t, exec .ld_a_at_de s = .next t ∧ LoadsRegister s t .a (s.memRead s.regs.de) 8) ∧
  (∀ nn, encode (.ld_a_at_nn nn) = [0xFA, nn.extractLsb' 0 8, nn.extractLsb' 8 8] ∧
    ∀ s, ∃ t, exec (.ld_a_at_nn nn) s = .next t ∧ LoadsRegister s t .a (s.memRead nn) 16) ∧
  (∀ n, encode (.ldh_a_at_n n) = [0xF0, n] ∧
    ∀ s, ∃ t, exec (.ldh_a_at_n n) s = .next t ∧ LoadsRegister s t .a (s.memRead (0xFF#8 ++ n)) 12) ∧
  (encode .ld_a_at_c = [0xF2] ∧
    ∀ s, ∃ t, exec .ld_a_at_c s = .next t ∧ LoadsRegister s t .a (s.memRead (0xFF#8 ++ s.regs.c)) 8)

/-- 41_load8.md R207, R208, R210, R212, R214: the stores of A to (BC), (DE), (nn), (0xFF00 + n) and (0xFF00 + C). -/
def Obligations.StoreAccumulator : Prop :=
  (encode .ld_at_bc_a = [0x02] ∧
    ∀ s, ∃ t, exec .ld_at_bc_a s = .next t ∧ StoresByte s t s.regs.bc s.regs.a s.regs 8) ∧
  (encode .ld_at_de_a = [0x12] ∧
    ∀ s, ∃ t, exec .ld_at_de_a s = .next t ∧ StoresByte s t s.regs.de s.regs.a s.regs 8) ∧
  (∀ nn, encode (.ld_at_nn_a nn) = [0xEA, nn.extractLsb' 0 8, nn.extractLsb' 8 8] ∧
    ∀ s, ∃ t, exec (.ld_at_nn_a nn) s = .next t ∧ StoresByte s t nn s.regs.a s.regs 16) ∧
  (∀ n, encode (.ldh_at_n_a n) = [0xE0, n] ∧
    ∀ s, ∃ t, exec (.ldh_at_n_a n) s = .next t ∧ StoresByte s t (0xFF#8 ++ n) s.regs.a s.regs 12) ∧
  (encode .ld_at_c_a = [0xE2] ∧
    ∀ s, ∃ t, exec .ld_at_c_a s = .next t ∧ StoresByte s t (0xFF#8 ++ s.regs.c) s.regs.a s.regs 8)

/-- 41_load8.md R215 to R218: LD (HL+),A; LD A,(HL+); LD (HL-),A; LD A,(HL-): the access at the old HL, then HL one up or
down modulo 2^16, in H and L. -/
def Obligations.AccumulatorAtHlThenStepHl : Prop :=
  (encode .ld_at_hli_a = [0x22] ∧ ∀ s, ∃ t, exec .ld_at_hli_a s = .next t ∧
    StoresByte s t s.regs.hl s.regs.a
      { s.regs with h := (s.regs.hl + 1).extractLsb' 8 8, l := (s.regs.hl + 1).extractLsb' 0 8 } 8) ∧
  (encode .ld_a_at_hli = [0x2A] ∧ ∀ s, ∃ t, exec .ld_a_at_hli s = .next t ∧ t.regs.a = s.memRead s.regs.hl ∧
    t.regs.hl = s.regs.hl + 1 ∧ t.regs.flags = s.regs.flags ∧ ChangesOnly s t [.a, .h, .l] 8) ∧
  (encode .ld_at_hld_a = [0x32] ∧ ∀ s, ∃ t, exec .ld_at_hld_a s = .next t ∧
    StoresByte s t s.regs.hl s.regs.a
      { s.regs with h := (s.regs.hl - 1).extractLsb' 8 8, l := (s.regs.hl - 1).extractLsb' 0 8 } 8) ∧
  (encode .ld_a_at_hld = [0x3A] ∧ ∀ s, ∃ t, exec .ld_a_at_hld s = .next t ∧ t.regs.a = s.memRead s.regs.hl ∧
    t.regs.hl = s.regs.hl - 1 ∧ t.regs.flags = s.regs.flags ∧ ChangesOnly s t [.a, .h, .l] 8)

/-! ## 16-bit loads and the stack -/

/-- 42_load16.md R230, R232: LD rr,nn and LD SP,HL. -/
def Obligations.LoadPair : Prop :=
  (∀ i rr nn, i.shape = .ldPairNn rr nn → encode i = [0#2 ++ rr.code ++ 1#4, nn.extractLsb' 0 8, nn.extractLsb' 8 8] ∧
    ∀ s, ∃ t, exec i s = .next t ∧ SetsPair s t rr nn 12 ∧ t.regs.flags = s.regs.flags) ∧
  (encode .ld_sp_hl = [0xF9] ∧
    ∀ s, ∃ t, exec .ld_sp_hl s = .next t ∧ SetsPair s t .sp s.regs.hl 8 ∧ t.regs.flags = s.regs.flags)

/-- 42_load16.md R231, 20_memory.md R72: LD (nn),SP stores SP's low byte at nn first, then its high byte at nn + 1, modulo
2^16. -/
def Obligations.StoreStackPointer : Prop :=
  ∀ nn, encode (.ld_at_nn_sp nn) = [0x08, nn.extractLsb' 0 8, nn.extractLsb' 8 8] ∧
    ∀ s, ∃ t, exec (.ld_at_nn_sp nn) s = .next t ∧
      t = { (s.memWrite nn (s.regs.sp.extractLsb' 0 8)).memWrite (nn + 1) (s.regs.sp.extractLsb' 8 8) with
            ctl := { s.ctl with cycles := 20 } } ∧
      t.regs = s.regs ∧ StoresOnly s t [nn, nn + 1]

/-- 42_load16.md R233: PUSH qq, F being read as a byte with bits 3..0 zero (10_state.md R22). -/
def Obligations.PushPair : Prop :=
  ∀ i qq, i.shape = .push qq → encode i = [3#2 ++ qq.code ++ 5#4] ∧
    ∀ s, ∃ t, exec i s = .next t ∧ Pushes s t (s.regs.stackPair qq) s.regs.pc 16 ∧
      s.regs.af = s.regs.a ++ BitVec.ofBool s.regs.flags.z ++ BitVec.ofBool s.regs.flags.n ++
        BitVec.ofBool s.regs.flags.hf ++ BitVec.ofBool s.regs.flags.cy ++ 0#4

/-- 42_load16.md R234: POP qq: the low byte from SP, the high byte from SP + 1; POP AF writes the four flags from bits 7..4
of the low byte and drops its bits 3..0. -/
def Obligations.PopPair : Prop :=
  ∀ i qq, i.shape = .pop qq → encode i = [3#2 ++ qq.code ++ 1#4] ∧
    ∀ s, ∃ t, exec i s = .next t ∧
      let lo := s.memRead s.regs.sp
      let hi := s.memRead (s.regs.sp + 1)
      (qq ≠ .af → t.regs.stackPair qq = hi ++ lo ∧ t.regs.flags = s.regs.flags) ∧
      (qq = .af → t.regs.a = hi ∧
        t.regs.flags = { z := lo.getLsbD 7, n := lo.getLsbD 6, hf := lo.getLsbD 5, cy := lo.getLsbD 4 }) ∧
      KeepsRegisters s t (stackPairHalves qq) ∧ t.regs.sp = s.regs.sp + 2 ∧ t.regs.pc = s.regs.pc ∧ KeepsControl s t ∧
      t.ctl.cycles = 12 ∧ StoresNothing s t

/-- 42_load16.md R234's corner case: PUSH then POP of a pair, AF included, restores every register, wherever the two stack
bytes lie in memory that stores what is written. -/
def Obligations.PushThenPopRestores : Prop :=
  ∀ (i j : Instr) (qq : StackPair) (s : State) (k k' : Nat), i.shape = .push qq → j.shape = .pop qq →
    s.locate (s.regs.sp - 1) = .cell k → s.locate (s.regs.sp - 2) = .cell k' →
    ∃ t u, exec i s = .next t ∧ exec j t = .next u ∧ u.regs = s.regs

/-- 42_load16.md R235, 44_alu16.md R293: LD HL,SP+e and ADD SP,e: the displacement is sign-extended, the carries are those
of the unsigned addition of SP's low byte and the byte e. -/
def Obligations.StackPointerPlusDisplacement : Prop :=
  (∀ e, encode (.ld_hl_sp_e e) = [0xF8, e] ∧ ∀ s, ∃ t, exec (.ld_hl_sp_e e) s = .next t ∧
    SetsPair s t .hl (s.regs.sp + BitVec.ofInt 16 e.toInt) 12 ∧
    t.regs.flags = { z := false, n := false
                     hf := decide (s.regs.sp.toNat % 16 + e.toNat % 16 > 0x0F)
                     cy := decide (s.regs.sp.toNat % 256 + e.toNat > 0xFF) }) ∧
  (∀ e, encode (.add_sp_e e) = [0xE8, e] ∧ ∀ s, ∃ t, exec (.add_sp_e e) s = .next t ∧
    SetsPair s t .sp (s.regs.sp + BitVec.ofInt 16 e.toInt) 16 ∧
    t.regs.flags = { z := false, n := false
                     hf := decide (s.regs.sp.toNat % 16 + e.toNat % 16 > 0x0F)
                     cy := decide (s.regs.sp.toNat % 256 + e.toNat > 0xFF) })

/-! ## 8-bit arithmetic and logic -/

/-- 43_alu8.md R250, R252 to R258: ADD and ADC, in the register, (HL) and immediate forms. -/
def Obligations.AddWithFlags : Prop :=
  ∀ (i : Instr) (s : State) (o : AluOp) (v : Byte) (bytes : List Byte) (cycles : Nat), o = .add ∨ o = .adc →
    AluForm i o s v bytes cycles → encode i = bytes ∧ ∃ t, exec i s = .next t ∧
      let a := s.regs.a.toNat
      let c := if o = .adc then s.regs.flags.cy.toNat else 0
      t.regs.a.toNat = (a + v.toNat + c) % 256 ∧
      t.regs.flags = { z := decide (t.regs.a = 0), n := false
                       hf := decide (a % 16 + v.toNat % 16 + c > 0x0F), cy := decide (a + v.toNat + c > 0xFF) } ∧
      ChangesOnly s t [.a] cycles

/-- 43_alu8.md R251, R252, R259 to R264, R274 to R276: SUB, SBC and CP, in the three forms. CP keeps A. The result is an
integer modulo 256. -/
def Obligations.SubtractWithFlags : Prop :=
  ∀ (i : Instr) (s : State) (o : AluOp) (v : Byte) (bytes : List Byte) (cycles : Nat), o = .sub ∨ o = .sbc ∨ o = .cp →
    AluForm i o s v bytes cycles → encode i = bytes ∧ ∃ t, exec i s = .next t ∧
      let a := s.regs.a.toNat
      let c := if o = .sbc then s.regs.flags.cy.toNat else 0
      let res := ((a : Int) - v.toNat - c) % 256
      (o ≠ .cp → (t.regs.a.toNat : Int) = res) ∧ (o = .cp → t.regs.a = s.regs.a) ∧
      t.regs.flags = { z := decide (res = 0), n := true, hf := decide (a % 16 < v.toNat % 16 + c)
                       cy := decide (a < v.toNat + c) } ∧
      ChangesOnly s t [.a] cycles

/-- 43_alu8.md R252, R265 to R273: AND, XOR and OR, in the three forms. -/
def Obligations.LogicWithFlags : Prop :=
  ∀ (i : Instr) (s : State) (o : AluOp) (v : Byte) (bytes : List Byte) (cycles : Nat), o = .and ∨ o = .xor ∨ o = .or →
    AluForm i o s v bytes cycles → encode i = bytes ∧ ∃ t, exec i s = .next t ∧
      (o = .and → t.regs.a = s.regs.a &&& v) ∧ (o = .xor → t.regs.a = s.regs.a ^^^ v) ∧
      (o = .or → t.regs.a = s.regs.a ||| v) ∧
      t.regs.flags = { z := decide (t.regs.a = 0), n := false, hf := decide (o = .and), cy := false } ∧
      ChangesOnly s t [.a] cycles

/-- 43_alu8.md R277 to R280: INC r, DEC r, INC (HL), DEC (HL); CY is kept. The (HL) forms make one read, then one write of
the same address; their flags are those of the byte computed, whatever the write does with it. -/
def Obligations.IncrementByte : Prop :=
  (∀ i r, i.shape = .incR r → encode i = [0#2 ++ r.code ++ 4#3] ∧ ∀ s, ∃ t, exec i s = .next t ∧
    t.regs.r8 r = s.regs.r8 r + 1 ∧
    t.regs.flags = { z := decide (t.regs.r8 r = 0), n := false, hf := decide ((s.regs.r8 r).toNat % 16 = 0x0F)
                     cy := s.regs.flags.cy } ∧
    ChangesOnly s t [r] 4) ∧
  (∀ i r, i.shape = .decR r → encode i = [0#2 ++ r.code ++ 5#3] ∧ ∀ s, ∃ t, exec i s = .next t ∧
    t.regs.r8 r = s.regs.r8 r - 1 ∧
    t.regs.flags = { z := decide (t.regs.r8 r = 0), n := true, hf := decide ((s.regs.r8 r).toNat % 16 = 0x00)
                     cy := s.regs.flags.cy } ∧
    ChangesOnly s t [r] 4) ∧
  (encode .inc_at_hl = [0x34] ∧ ∀ s, ∃ t, exec .inc_at_hl s = .next t ∧
    let old := s.memRead s.regs.hl
    StoresByte s t s.regs.hl (old + 1)
      { s.regs with flags := { z := decide (old + 1 = 0), n := false, hf := decide (old.toNat % 16 = 0x0F)
                               cy := s.regs.flags.cy } } 12) ∧
  (encode .dec_at_hl = [0x35] ∧ ∀ s, ∃ t, exec .dec_at_hl s = .next t ∧
    let old := s.memRead s.regs.hl
    StoresByte s t s.regs.hl (old - 1)
      { s.regs with flags := { z := decide (old - 1 = 0), n := true, hf := decide (old.toNat % 16 = 0x00)
                               cy := s.regs.flags.cy } } 12)

/-- 43_alu8.md R281: DAA. After an addition a correction is made where the flag or the magnitude asks for it, after a
subtraction where the flag does; both tests read A and the flags from before. -/
def Obligations.DecimalAdjust : Prop :=
  encode .daa = [0x27] ∧ ∀ s, ∃ t, exec .daa s = .next t ∧
    let a := s.regs.a
    let f := s.regs.flags
    (f.n = false →
      t.regs.a = a + (if f.cy = true ∨ 0x99 < a.toNat then 0x60 else 0) +
        (if f.hf = true ∨ 0x09 < a.toNat % 16 then 0x06 else 0) ∧
      t.regs.flags.cy = decide (f.cy = true ∨ 0x99 < a.toNat)) ∧
    (f.n = true →
      t.regs.a = a - (if f.cy = true then 0x60 else 0) - (if f.hf = true then 0x06 else 0) ∧
      t.regs.flags.cy = f.cy) ∧
    t.regs.flags.z = decide (t.regs.a = 0) ∧ t.regs.flags.n = f.n ∧ t.regs.flags.hf = false ∧ ChangesOnly s t [.a] 4

/-- 43_alu8.md R282, R283, R284: CPL, SCF and CCF. -/
def Obligations.ComplementAndCarryFlag : Prop :=
  (encode .cpl = [0x2F] ∧ ∀ s, ∃ t, exec .cpl s = .next t ∧ t.regs.a.toNat = 255 - s.regs.a.toNat ∧
    t.regs.flags = { s.regs.flags with n := true, hf := true } ∧ ChangesOnly s t [.a] 4) ∧
  (encode .scf = [0x37] ∧ ∀ s, ∃ t, exec .scf s = .next t ∧
    t.regs.flags = { s.regs.flags with n := false, hf := false, cy := true } ∧ ChangesOnly s t [] 4) ∧
  (encode .ccf = [0x3F] ∧ ∀ s, ∃ t, exec .ccf s = .next t ∧
    t.regs.flags = { s.regs.flags with n := false, hf := false, cy := !s.regs.flags.cy } ∧ ChangesOnly s t [] 4)

/-! ## 16-bit arithmetic -/

/-- 44_alu16.md R290, R291, R292: ADD HL,rr: Z is kept, H is the carry out of bit 11, CY the carry out of bit 15; INC rr
and DEC rr write no flag. -/
def Obligations.PairArithmetic : Prop :=
  (∀ i rr, i.shape = .addHl rr → encode i = [0#2 ++ rr.code ++ 9#4] ∧ ∀ s, ∃ t, exec i s = .next t ∧
    let a := s.regs.hl.toNat
    let b := (s.regs.pair rr).toNat
    SetsPair s t .hl (BitVec.ofNat 16 (a + b)) 8 ∧
    t.regs.flags = { s.regs.flags with n := false, hf := decide (a % 0x1000 + b % 0x1000 > 0x0FFF)
                                       cy := decide (a + b > 0xFFFF) }) ∧
  (∀ i rr, i.shape = .incPair rr → encode i = [0#2 ++ rr.code ++ 3#4] ∧ ∀ s, ∃ t, exec i s = .next t ∧
    SetsPair s t rr (s.regs.pair rr + 1) 8 ∧ t.regs.flags = s.regs.flags) ∧
  (∀ i rr, i.shape = .decPair rr → encode i = [0#2 ++ rr.code ++ 11#4] ∧ ∀ s, ∃ t, exec i s = .next t ∧
    SetsPair s t rr (s.regs.pair rr - 1) 8 ∧ t.regs.flags = s.regs.flags)

/-! ## Rotates, shifts and bit operations -/

/-- 45_rotate_shift_bit.md R300 to R303: RLCA, RRCA, RLA, RRA: Z is 0 whatever the result. -/
def Obligations.RotateAccumulator : Prop :=
  (encode .rlca = [0x07] ∧ ∀ s, ∃ t, exec .rlca s = .next t ∧
    t.regs.a = (s.regs.a <<< 1) ||| bitByte (s.regs.a.getLsbD 7) ∧
    t.regs.flags = { z := false, n := false, hf := false, cy := s.regs.a.getLsbD 7 } ∧ ChangesOnly s t [.a] 4) ∧
  (encode .rrca = [0x0F] ∧ ∀ s, ∃ t, exec .rrca s = .next t ∧
    t.regs.a = (s.regs.a >>> 1) ||| (bitByte (s.regs.a.getLsbD 0) <<< 7) ∧
    t.regs.flags = { z := false, n := false, hf := false, cy := s.regs.a.getLsbD 0 } ∧ ChangesOnly s t [.a] 4) ∧
  (encode .rla = [0x17] ∧ ∀ s, ∃ t, exec .rla s = .next t ∧
    t.regs.a = (s.regs.a <<< 1) ||| bitByte s.regs.flags.cy ∧
    t.regs.flags = { z := false, n := false, hf := false, cy := s.regs.a.getLsbD 7 } ∧ ChangesOnly s t [.a] 4) ∧
  (encode .rra = [0x1F] ∧ ∀ s, ∃ t, exec .rra s = .next t ∧
    t.regs.a = (s.regs.a >>> 1) ||| (bitByte s.regs.flags.cy <<< 7) ∧
    t.regs.flags = { z := false, n := false, hf := false, cy := s.regs.a.getLsbD 0 } ∧ ChangesOnly s t [.a] 4)

/-- 45_rotate_shift_bit.md R304 and the register forms R305, R307, R309, R311, R313, R315, R317, R319. -/
def Obligations.ShiftRegister : Prop :=
  ∀ i o r, i.shape = .shiftR o r → encode i = [0xCB, 0#2 ++ o.code ++ r.code] ∧ ∀ s, ∃ t, exec i s = .next t ∧
    t.regs.r8 r = shiftResult o (s.regs.r8 r) s.regs.flags.cy ∧
    t.regs.flags = { z := decide (t.regs.r8 r = 0), n := false, hf := false, cy := shiftCarryOut o (s.regs.r8 r) } ∧
    ChangesOnly s t [r] 8

/-- 45_rotate_shift_bit.md R304 and the (HL) forms R306, R308, R310, R312, R314, R316, R318, R320. -/
def Obligations.ShiftAtHl : Prop :=
  ∀ i o, i.shape = .shiftAtHL o → encode i = [0xCB, 0#2 ++ o.code ++ 6#3] ∧ ∀ s, ∃ t, exec i s = .next t ∧
    let v := s.memRead s.regs.hl
    let res := shiftResult o v s.regs.flags.cy
    StoresByte s t s.regs.hl res
      { s.regs with flags := { z := decide (res = 0), n := false, hf := false, cy := shiftCarryOut o v } } 16

/-- 45_rotate_shift_bit.md R321, R322: BIT b,r and BIT b,(HL): nothing but the flags Z, N and H is written. -/
def Obligations.TestBit : Prop :=
  (∀ i b r, i.shape = .bitR b r → encode i = [0xCB, 1#2 ++ fieldCode b ++ r.code] ∧ ∀ s, ∃ t, exec i s = .next t ∧
    t.regs.flags = { s.regs.flags with z := !(s.regs.r8 r).getLsbD b.val, n := false, hf := true } ∧
    ChangesOnly s t [] 8) ∧
  (∀ i b, i.shape = .bitAtHL b → encode i = [0xCB, 1#2 ++ fieldCode b ++ 6#3] ∧ ∀ s, ∃ t, exec i s = .next t ∧
    t.regs.flags = { s.regs.flags with z := !(s.memRead s.regs.hl).getLsbD b.val, n := false, hf := true } ∧
    ChangesOnly s t [] 12)

/-- 45_rotate_shift_bit.md R323 to R326: RES b,r; SET b,r; RES b,(HL); SET b,(HL): bit b becomes 0 or 1 and every other bit
of the operand stays; the (HL) forms write the byte back even where it is the byte read; no flag is written. -/
def Obligations.ResetAndSetBit : Prop :=
  (∀ i b r, i.shape = .resR b r → encode i = [0xCB, 2#2 ++ fieldCode b ++ r.code] ∧ ∀ s, ∃ t, exec i s = .next t ∧
    (∀ k : Nat, k < 8 → (t.regs.r8 r).getLsbD k = if k = b.val then false else (s.regs.r8 r).getLsbD k) ∧
    t.regs.flags = s.regs.flags ∧ ChangesOnly s t [r] 8) ∧
  (∀ i b r, i.shape = .setR b r → encode i = [0xCB, 3#2 ++ fieldCode b ++ r.code] ∧ ∀ s, ∃ t, exec i s = .next t ∧
    (∀ k : Nat, k < 8 → (t.regs.r8 r).getLsbD k = if k = b.val then true else (s.regs.r8 r).getLsbD k) ∧
    t.regs.flags = s.regs.flags ∧ ChangesOnly s t [r] 8) ∧
  (∀ i b, i.shape = .resAtHL b → encode i = [0xCB, 2#2 ++ fieldCode b ++ 6#3] ∧ ∀ s, ∃ (t : State) (v : Byte), exec i s = .next t ∧
    (∀ k : Nat, k < 8 → v.getLsbD k = if k = b.val then false else (s.memRead s.regs.hl).getLsbD k) ∧
    StoresByte s t s.regs.hl v s.regs 16) ∧
  (∀ i b, i.shape = .setAtHL b → encode i = [0xCB, 3#2 ++ fieldCode b ++ 6#3] ∧ ∀ s, ∃ (t : State) (v : Byte), exec i s = .next t ∧
    (∀ k : Nat, k < 8 → v.getLsbD k = if k = b.val then true else (s.memRead s.regs.hl).getLsbD k) ∧
    StoresByte s t s.regs.hl v s.regs 16)

/-! ## Control transfer -/

/-- 46_control.md R330, R331, R332: JP nn, JP cc,nn (16 cycles taken, 12 not), JP (HL) (no memory is read). -/
def Obligations.JumpAbsolute : Prop :=
  (∀ nn, encode (.jp_nn nn) = [0xC3, nn.extractLsb' 0 8, nn.extractLsb' 8 8] ∧
    ∀ s, ∃ t, exec (.jp_nn nn) s = .next t ∧ Jumps s t nn 16) ∧
  (∀ i cc nn, i.shape = .jpCc cc nn →
    encode i = [0b110#3 ++ cc.code ++ 0b010#3, nn.extractLsb' 0 8, nn.extractLsb' 8 8] ∧
    ∀ s, ∃ t, exec i s = .next t ∧ (CondTrue s.regs.flags cc → Jumps s t nn 16) ∧
      (¬ CondTrue s.regs.flags cc → Jumps s t s.regs.pc 12)) ∧
  (encode .jp_at_hl = [0xE9] ∧ ∀ s, ∃ t, exec .jp_at_hl s = .next t ∧ Jumps s t s.regs.hl 4)

/-- 46_control.md R333, R334: JR e and JR cc,e (12 cycles taken, 8 not): the displacement is sign-extended and added to the
address after the instruction, modulo 2^16. -/
def Obligations.JumpRelative : Prop :=
  (∀ e, encode (.jr_e e) = [0x18, e] ∧
    ∀ s, ∃ t, exec (.jr_e e) s = .next t ∧ Jumps s t (s.regs.pc + BitVec.ofInt 16 e.toInt) 12) ∧
  (∀ i cc e, i.shape = .jrCc cc e → encode i = [0b001#3 ++ cc.code ++ 0#3, e] ∧
    ∀ s, ∃ t, exec i s = .next t ∧ (CondTrue s.regs.flags cc → Jumps s t (s.regs.pc + BitVec.ofInt 16 e.toInt) 12) ∧
      (¬ CondTrue s.regs.flags cc → Jumps s t s.regs.pc 8))

/-- 46_control.md R335, R336, R337: CALL nn, CALL cc,nn (24 cycles taken; 12 and no stack access not taken) and RST t: the
address after the instruction is pushed. -/
def Obligations.CallAndRestart : Prop :=
  (∀ nn, encode (.call_nn nn) = [0xCD, nn.extractLsb' 0 8, nn.extractLsb' 8 8] ∧
    ∀ s, ∃ t, exec (.call_nn nn) s = .next t ∧ Pushes s t s.regs.pc nn 24) ∧
  (∀ i cc nn, i.shape = .callCc cc nn →
    encode i = [0b110#3 ++ cc.code ++ 0b100#3, nn.extractLsb' 0 8, nn.extractLsb' 8 8] ∧
    ∀ s, ∃ t, exec i s = .next t ∧ (CondTrue s.regs.flags cc → Pushes s t s.regs.pc nn 24) ∧
      (¬ CondTrue s.regs.flags cc → Jumps s t s.regs.pc 12)) ∧
  (∀ i k, i.shape = .rst k → encode i = [3#2 ++ fieldCode k ++ 7#3] ∧
    ∀ s, ∃ t, exec i s = .next t ∧ Pushes s t s.regs.pc (BitVec.ofNat 16 (k * 8)) 16)

/-- 46_control.md R338, R339: RET and RET cc (20 cycles taken; 8 and no stack access not taken). -/
def Obligations.ReturnFromSubroutine : Prop :=
  (encode .ret = [0xC9] ∧ ∀ s, ∃ t, exec .ret s = .next t ∧ PopsPc s t 16 ∧ KeepsControl s t) ∧
  (∀ i cc, i.shape = .retCc cc → encode i = [0b110#3 ++ cc.code ++ 0#3] ∧
    ∀ s, ∃ t, exec i s = .next t ∧ (CondTrue s.regs.flags cc → PopsPc s t 20 ∧ KeepsControl s t) ∧
      (¬ CondTrue s.regs.flags cc → Jumps s t s.regs.pc 8))

/-- 46_control.md R340, 60_exceptions.md R426: RETI pops PC and sets IME at once, with no pending enable left; no other
control state changes. -/
def Obligations.ReturnFromInterrupt : Prop :=
  encode .reti = [0xD9] ∧ ∀ s, ∃ t, exec .reti s = .next t ∧ PopsPc s t 16 ∧
    t.ctl = { s.ctl with ime := true, eiDelay := 0, cycles := 16 }

/-! ## CPU control -/

/-- 47_cpu_control.md R350 to R354: NOP; HALT sets Halted; STOP sets Stopped, whatever its second byte is; DI clears IME and
cancels a pending enable at once; EI starts the delay where none runs. -/
def Obligations.CpuControl : Prop :=
  (encode .nop = [0x00] ∧ ∀ s, exec .nop s = .next { s with ctl := { s.ctl with cycles := 4 } }) ∧
  (encode .halt = [0x76] ∧ ∀ s, exec .halt s = .next { s with ctl := { s.ctl with halted := true, cycles := 4 } }) ∧
  (∀ n, encode (.stop n) = [0x10, n] ∧
    ∀ s, exec (.stop n) s = .next { s with ctl := { s.ctl with stopped := true, cycles := 4 } }) ∧
  (encode .di = [0xF3] ∧
    ∀ s, exec .di s = .next { s with ctl := { s.ctl with ime := false, eiDelay := 0, cycles := 4 } }) ∧
  (encode .ei = [0xFB] ∧ ∀ s, exec .ei s = .next
    { s with ctl := { s.ctl with eiDelay := if s.ctl.eiDelay = 0 then 2 else s.ctl.eiDelay, cycles := 4 } })

/-- 47_cpu_control.md R355: an illegal opcode records IllegalOpcode(op, PC - 1) and changes nothing else. That this is a
next state with a cycle count of 0 is the model's choice (log 6, log 9). -/
def Obligations.IllegalOpcodeIsRecorded : Prop :=
  ∀ i op, i.shape = .illegal op → encode i = [op] ∧ i.wellFormed = false ∧
    ∀ s, exec i s = .next
      { s with ctl := { s.ctl with fault := some { op := op, addr := s.regs.pc - 1 }, cycles := 0 } }

/-! ## The timer -/

/-- 60_exceptions.md R440, R441, R442, 10_state.md R34: an advance by `c` cycles. DIV counts once per 256 cycles whatever
TAC holds; while TAC bit 2 is 0 nothing else changes; while it is 1, TIMA ticks once per N cycles, and a tick at 0xFF
reloads TMA and requests the timer interrupt. Several ticks in one advance follow with `TimerAdvancesAddUp`. -/
def Obligations.TimerCounts : Prop :=
  ∀ (s : State) (c : Nat), ∃ tima timaAcc iflag,
    s.advanceTimer c =
      { s with
        timer := { s.timer with
                   div := s.timer.div + BitVec.ofNat 8 ((s.timer.divAcc + c) / 256)
                   divAcc := (s.timer.divAcc + c) % 256, tima := tima, timaAcc := timaAcc }
        irq := { s.irq with iflag := iflag } } ∧
    (s.timer.tac.getLsbD 2 = false → tima = s.timer.tima ∧ timaAcc = s.timer.timaAcc ∧ iflag = s.irq.iflag) ∧
    (s.timer.tac.getLsbD 2 = true → ∀ n, ([1024, 16, 64, 256] : List Nat)[s.timer.tac.toNat % 4]? = some n →
      (s.timer.timaAcc + c < n → tima = s.timer.tima ∧ timaAcc = s.timer.timaAcc + c ∧ iflag = s.irq.iflag) ∧
      (n ≤ s.timer.timaAcc + c → s.timer.timaAcc + c < 2 * n → timaAcc = s.timer.timaAcc + c - n ∧
        (s.timer.tima = 0xFF → tima = s.timer.tma ∧ iflag = s.irq.iflag ||| 0b00100) ∧
        (s.timer.tima ≠ 0xFF → tima = s.timer.tima + 1 ∧ iflag = s.irq.iflag)))

/-- 60_exceptions.md R440, R442: the timer loses no cycle and no tick: two advances are one advance by the sum, whatever
number of ticks and overflows they make. -/
def Obligations.TimerAdvancesAddUp : Prop :=
  ∀ (s : State) (c d : Nat), (s.advanceTimer c).advanceTimer d = s.advanceTimer (c + d)

/-! ## The PPU -/

/-- 60_exceptions.md R451, R452: an advance with LCDC bit 7 clear sets line 0, vBlank, clock 0 and lcdWasOff and changes
nothing else, whatever its length: nothing is rendered or requested and the coincidence flag stays. The first advance with
the bit set again is an advance from line LY = 0 in readOAM at clock 0, entered with its STAT request. -/
def Obligations.LcdOffAndOn : Prop :=
  ∀ (s : State) (c : Nat),
    (s.ppu.lcdc.getLsbD 7 = false →
      s.advancePpu c = { s with ppu := { s.ppu with ly := 0, modeClock := 0, mode := .vBlank, lcdWasOff := true } }) ∧
    (s.ppu.lcdc.getLsbD 7 = true → s.ppu.lcdWasOff = true →
      s.advancePpu c =
        State.advancePpu
          { s with
            ppu := { s.ppu with lcdWasOff := false, mode := .readOAM, modeClock := 0 }
            irq := { s.irq with
                     iflag := if s.ppu.statEnable.getLsbD 2 then s.irq.iflag ||| 0b00010 else s.irq.iflag } } c)

/-- 60_exceptions.md R450, R453 to R457, R459, R460, R467: an advance with the LCD on that crosses no threshold, or one. At
`m` accumulated cycles readOAM gives way to readVRAM from 80, readVRAM to hBlank from 172 with its line rendered, hBlank to
readOAM or, at line 144, to vBlank with its interrupt and a `draw` from 204, and vBlank steps its line from 456; the
remainder is kept; a mode with an enable bit requests lcdStat; then LY is compared with LYC, and a rising coincidence
requests lcdStat if STAT bit 6 enables it. Bit k of `statEnable` is STAT bit k + 3. -/
def Obligations.PpuModeTransitions : Prop :=
  ∀ (s : State) (c : Nat), s.ppu.lcdc.getLsbD 7 = true → s.ppu.lcdWasOff = false →
    let m := s.ppu.modeClock + c
    let stat (b : Nat) : BitVec 5 := if s.ppu.statEnable.getLsbD b then 0b00010 else 0
    (m < s.ppu.mode.threshold → PpuMoves s (s.advancePpu c) s.ppu.mode s.ppu.ly m [] 0) ∧
    (s.ppu.mode = .readOAM → 80 ≤ m → m < 80 + 172 →
      PpuMoves s (s.advancePpu c) .readVRAM s.ppu.ly (m - 80) [] 0) ∧
    (s.ppu.mode = .readVRAM → s.ppu.ly.toNat < 144 → 172 ≤ m → m < 172 + 204 →
      PpuMoves s (s.advancePpu c) .hBlank s.ppu.ly (m - 172)
        ((List.range 160).map fun col => .setPixel col s.ppu.ly.toNat (s.pixelShade s.ppu.ly.toNat col)) (stat 0)) ∧
    (s.ppu.mode = .hBlank → s.ppu.ly ≠ 143 → 204 ≤ m → m < 204 + 80 →
      PpuMoves s (s.advancePpu c) .readOAM (s.ppu.ly + 1) (m - 204) [] (stat 2)) ∧
    (s.ppu.mode = .hBlank → s.ppu.ly = 143 → 204 ≤ m → m < 204 + 80 →
      PpuMoves s (s.advancePpu c) .vBlank 144 (m - 204) [.draw] (0b00001 ||| stat 1)) ∧
    (s.ppu.mode = .vBlank → s.ppu.ly.toNat < 153 → 456 ≤ m → m < 456 + 80 →
      PpuMoves s (s.advancePpu c) .vBlank (s.ppu.ly + 1) (m - 456) [] 0) ∧
    (s.ppu.mode = .vBlank → s.ppu.ly = 153 → 456 ≤ m → m < 456 + 80 →
      PpuMoves s (s.advancePpu c) .readOAM 0 (m - 456) [] (stat 2))

/-- 60_exceptions.md R461 to R464: the shade of the pixel at column `col` of line `ly`: the window or the background, the
tile map and the tile's two bitplanes read from VRAM, the palette; 0 while LCDC bit 0 is 0. The renderer is given the free
colour of the shade (log 4). -/
def Obligations.PixelShade : Prop :=
  ∀ (s : State) (ly col : Nat), ly < 144 → col < 160 →
    let p := s.ppu
    let vram (addr : Nat) : Byte := s.memRead (BitVec.ofNat 16 addr)
    let inWindow := p.lcdc.getLsbD 5 && decide (p.wy.toNat ≤ ly) && decide ((p.wx.toNat : Int) - 7 ≤ col)
    let mapBase := if p.lcdc.getLsbD (if inWindow then 6 else 3) then 0x9C00 else 0x9800
    let y := if inWindow then ly - p.wy.toNat else (ly + p.scy.toNat) % 256
    let x := if inWindow then ((col : Int) - (p.wx.toNat - 7)).toNat else (col + p.scx.toNat) % 256
    let tileId := vram (mapBase + y / 8 * 32 + x / 8)
    let tileAddr := if p.lcdc.getLsbD 4 then 0x8000 + tileId.toNat * 16 else ((0x9000 : Int) + tileId.toInt * 16).toNat
    let lo := vram (tileAddr + y % 8 * 2)
    let hi := vram (tileAddr + y % 8 * 2 + 1)
    let ci := 2 * (hi.getLsbD (7 - x % 8)).toNat + (lo.getLsbD (7 - x % 8)).toNat
    (p.lcdc.getLsbD 0 = true → (s.pixelShade ly col).toNat = p.bgp.toNat / 2 ^ (2 * ci) % 4) ∧
    (p.lcdc.getLsbD 0 = false → s.pixelShade ly col = 0) ∧
    (SinkCall.setPixel col ly (s.pixelShade ly col)).render = .setPixel col ly (Config.shadeColour (s.pixelShade ly col))

/-! ## Memory -/

/-- 20_memory.md R81, R83, R94, R95, R97, R104, R106: a byte stored in VRAM, work RAM, OAM, high RAM or a plain I/O cell
is what the next load of that storage gives, and no other storage changes; echo RAM is work RAM 0x2000 lower, read and
written. -/
def Obligations.RamStoresWhatIsWritten : Prop :=
  (∀ (s : State) (a : Word) (v : Byte), IsStorage a.toNat → (s.memWrite a v).memRead a = v ∧
    ∀ b : Word, echoHome b.toNat ≠ echoHome a.toNat → (s.memWrite a v).memRead b = s.memRead b) ∧
  (∀ (s : State) (a : Word) (v : Byte), 0xE000 ≤ a.toNat → a.toNat < 0xFE00 →
    s.memRead a = s.memRead (a - 0x2000) ∧ s.memWrite a v = s.memWrite (a - 0x2000) v) ∧
  (∀ (s : State) (a : Word) (v : Byte), 0xFEA0 ≤ a.toNat → a.toNat < 0xFF00 →
    s.memRead a = 0xFF ∧ s.memWrite a v = s)

/-- 20_memory.md R80, R88 to R91: a write below 0x8000 never changes ROM or RAM: with no MBC it changes nothing, with an
MBC1 one of its four registers. -/
def Obligations.RomWritesAreMbcControl : Prop :=
  ∀ (s : State) (a : Word) (v : Byte), a.toNat < 0x8000 →
    (s.cart.mbcType = .mbc0 → s.memWrite a v = s) ∧
    (s.cart.mbcType = .mbc1 → ∃ m, s.memWrite a v = { s with mbc := m } ∧
      (a.toNat < 0x2000 → m = { s.mbc with ramEnable := decide (v.toNat % 16 = 0x0A) }) ∧
      (0x2000 ≤ a.toNat → a.toNat < 0x4000 →
        m = { s.mbc with romBank := if v.toNat % 32 = 0 then 1 else BitVec.ofNat 5 v.toNat }) ∧
      (0x4000 ≤ a.toNat → a.toNat < 0x6000 → m = { s.mbc with ramBank := BitVec.ofNat 2 v.toNat }) ∧
      (0x6000 ≤ a.toNat → m = { s.mbc with bankingMode := decide (v.toNat % 2 = 1) }))

/-- 20_memory.md R76, R78, R79, R87, R92: a read of 0x0000-0x00FF while inBios is set and PC is below 0x100 is a BIOS byte;
every other read below 0x8000 is a ROM byte, at the offset in the bank that the MBC's registers select, modulo the bank
count; a byte the image lacks reads 0xFF. -/
def Obligations.RomReads : Prop :=
  ∀ (s : State) (a : Word),
    let overlay := s.ctl.inBios = true ∧ s.regs.pc.toNat < 0x100 ∧ a.toNat < 0x100
    let romByte (bank off : Nat) : Byte := (s.cart.rom.byte? (bank % s.cart.romBankCount * 0x4000 + off)).getD 0xFF
    let mbc1 := s.cart.mbcType = .mbc1
    (overlay → ∀ bios, s.cart.bios = some bios → s.memRead a = (bios.byte? a.toNat).getD 0xFF) ∧
    (¬ overlay → a.toNat < 0x4000 →
      s.memRead a =
        romByte (if mbc1 ∧ s.mbc.bankingMode = true then 32 * s.mbc.ramBank.toNat else 0) a.toNat) ∧
    (0x4000 ≤ a.toNat → a.toNat < 0x8000 →
      s.memRead a =
        romByte (if mbc1 then 32 * s.mbc.ramBank.toNat + s.mbc.romBank.toNat else 1) (a.toNat - 0x4000))

/-- 20_memory.md R82, R84, R85, R93: cartridge RAM is usable if the header gives it a size and, with an MBC1, RAM is
enabled. Unusable it reads 0xFF and takes no write; usable, it stores, at the offset of the address in the effective RAM
bank modulo the size, and no other offset changes. -/
def Obligations.CartridgeRam : Prop :=
  ∀ (s : State) (a : Word), 0xA000 ≤ a.toNat → a.toNat < 0xC000 →
    let size := ([0, 0x800, 0x2000, 0x8000, 0x20000, 0x10000] : List Nat).getD (s.cart.headerByte 0x149).toNat 0
    let mbc1 := s.cart.headerByte 0x147 ∈ ([0x01, 0x02, 0x03] : List Byte)
    let bank := if mbc1 ∧ s.mbc.bankingMode = true then s.mbc.ramBank.toNat else 0
    let off (b : Word) := (bank * 0x2000 + (b.toNat - 0xA000)) % size
    let usable := 0 < size ∧ (mbc1 → s.mbc.ramEnable = true)
    (¬ usable → s.memRead a = 0xFF ∧ ∀ v, s.memWrite a v = s) ∧
    (usable → ∀ v, (s.memWrite a v).memRead a = v ∧
      ∀ b : Word, 0xA000 ≤ b.toNat → b.toNat < 0xC000 →
        (off b = off a → (s.memWrite a v).memRead b = v) ∧ (off b ≠ off a → (s.memWrite a v).memRead b = s.memRead b))

/-- 20_memory.md R98 to R104: the registers of the I/O window and IE: what a write keeps and what a read gives. JOYP's low
bits are a free draw for the select bits written; that it is the draw number `hostDraw` is the model's choice
(notes/assumptions/3.md). -/
def Obligations.RegistersReadAndWrite : Prop :=
  ∀ (s : State) (v : Byte),
    ((s.memWrite 0xFF00 v).memRead 0xFF00 = 3#2 ++ v.extractLsb' 4 2 ++ Config.joypadLow s.hostDraw (v.extractLsb' 4 2)) ∧
    (s.memRead 0xFF04 = s.timer.div ∧ s.memWrite 0xFF04 v = { s with timer := { s.timer with div := 0, divAcc := 0 } }) ∧
    (∀ a ∈ ([0xFF05, 0xFF06, 0xFF07, 0xFF40, 0xFF42, 0xFF43, 0xFF45, 0xFF47, 0xFF48, 0xFF49, 0xFF4A, 0xFF4B] : List Word),
      (s.memWrite a v).memRead a = v ∧ ∀ b, b ≠ a → (s.memWrite a v).memRead b = s.memRead b) ∧
    (s.memRead 0xFF0F = 0xE0 ||| s.irq.iflag.setWidth 8 ∧
      s.memWrite 0xFF0F v = { s with irq := { s.irq with iflag := BitVec.ofNat 5 v.toNat } }) ∧
    ((s.memWrite 0xFF41 v).memRead 0xFF41 = 0x80 ||| (v &&& 0x78) ||| (s.memRead 0xFF41 &&& 0x07) ∧
      s.memWrite 0xFF41 v = { s with ppu := { s.ppu with statEnable := v.extractLsb' 3 4 } }) ∧
    (s.memRead 0xFF44 = s.ppu.ly ∧ s.memWrite 0xFF44 v = { s with ppu := { s.ppu with ly := 0 } }) ∧
    (s.memRead 0xFFFF = s.irq.ie.setWidth 8 ∧
      s.memWrite 0xFFFF v = { s with irq := { s.irq with ie := BitVec.ofNat 5 v.toNat } })

/-! ## Reset and the host -/

/-- 10_state.md R44, R27 to R34, R36 to R40: the state after a reset of a machine with the images `cart` loaded, by whether
there is a BIOS image, as the registers hold it and as reads of the register addresses show it. -/
def Obligations.ResetState : Prop :=
  ∀ (cart : Cartridge) (ramDraw hostDraw : Nat),
    let s := State.resetWith cart ramDraw hostDraw
    (cart.bios.isSome = true →
      s.regs = { a := 0, b := 0, c := 0, d := 0, e := 0, h := 0, l := 0
                 flags := { z := false, n := false, hf := false, cy := false }, sp := 0x0000, pc := 0x0000 } ∧
      s.ctl.inBios = true ∧ s.memRead 0xFF40 = 0x00 ∧ s.memRead 0xFF47 = 0x00) ∧
    (cart.bios = none →
      s.regs = { a := 0x01, b := 0x00, c := 0x13, d := 0x00, e := 0xD8, h := 0x01, l := 0x4D
                 flags := { z := true, n := false, hf := true, cy := true }, sp := 0xFFFE, pc := 0x0100 } ∧
      s.ctl.inBios = false ∧ s.memRead 0xFF40 = 0x91 ∧ s.memRead 0xFF47 = 0xFC) ∧
    s.ctl.halted = false ∧ s.ctl.stopped = false ∧ s.ctl.ime = false ∧ s.ctl.eiDelay = 0 ∧ s.ctl.fault = none ∧
    (∀ a ∈ ([0xFF04, 0xFF05, 0xFF06, 0xFF07, 0xFF42, 0xFF43, 0xFF44, 0xFF45, 0xFF48, 0xFF49, 0xFF4A, 0xFF4B, 0xFFFF] :
      List Word), s.memRead a = 0x00) ∧
    s.memRead 0xFF0F = 0xE0 ∧ s.memRead 0xFF41 = 0x82 ∧ s.memRead 0xFF00 &&& 0xF0 = 0xC0 ∧
    (∀ a : Word, 0xFF00 ≤ a.toNat → a.toNat < 0xFF80 → ioReg? a.toNat = none → s.memRead a = 0x00) ∧
    s.mbc = { romBank := 1, ramBank := 0, ramEnable := false, bankingMode := false } ∧
    s.timer.divAcc = 0 ∧ s.timer.timaAcc = 0 ∧ s.ppu.mode = .readOAM ∧ s.ppu.modeClock = 0 ∧ s.ppu.lcdWasOff = false ∧
    s.cart = cart

/-- 60_exceptions.md R471, R472, 70_reset_and_hazards.md R500, R501, R503: loading keeps every byte of the images; the host
can pause, resume, and reset, which keeps the images only, clears a fault and Stopped and does not call the sink; all three
keep the invariant of a run. Pause and resume of a running CPU touch Stopped alone. What a pause does to a halted CPU is the
model's choice (notes/assumptions/8.md): it is Stopped and not Halted (10_state.md R27) until the resume, which finds
everything as it was. So are the new free draw of RAM at a reset (log 2) and the keeping of the sink's calls (log 5). -/
def Obligations.LoadingAndHostActs : Prop :=
  (∀ (rom : List Byte) (bios : Option (List Byte)) (k : Nat),
    (State.load rom bios).cart.rom.byte? k = rom[k]? ∧
    (State.load rom bios).cart.bios.bind (·.byte? k) = bios.bind (·[k]?) ∧
    State.load rom bios = State.resetWith (State.load rom bios).cart 0 0) ∧
  (∀ s : State,
    (s.ctl.stopped = false → s.hostResume = s ∧
      s.hostPause =
        { s with ctl := { s.ctl with stopped := true, halted := false, pausedHalted := s.ctl.halted } }) ∧
    (s.ctl.stopped = true → s.hostPause = s ∧
      s.hostResume =
        { s with ctl := { s.ctl with stopped := false, halted := s.ctl.pausedHalted, pausedHalted := false } }) ∧
    (s.Inv → s.hostPause.Inv ∧ s.hostResume.Inv ∧ s.hostReset.Inv ∧
      (s.ctl.stopped = false → s.hostPause.hostResume = s) ∧
      (s.ctl.stopped = true → s.ctl.pausedHalted = false →
        s.hostResume = { s with ctl := { s.ctl with stopped := false } })) ∧
    (∃ ram host, s.hostReset = { State.resetWith s.cart ram host with sink := s.sink } ∧ ram ≠ s.ramDraw) ∧
    s.hostReset.ctl.fault = none ∧ s.hostReset.ctl.stopped = false ∧
    ∀ a : Word, (0x8000 ≤ a.toNat ∧ a.toNat < 0xA000) ∨ (0xC000 ≤ a.toNat ∧ a.toNat < 0xE000) ∨
        (0xFE00 ≤ a.toNat ∧ a.toNat < 0xFEA0) ∨ (0xFF80 ≤ a.toNat ∧ a.toNat < 0xFFFF) →
      s.hostReset.memRead a = Config.ramInit (s.ramDraw + 1) a.toNat)

/-! ## The invariant of a run -/

/-- 70_reset_and_hazards.md R500: the invariant holds at reset, whatever images are loaded and whatever RAM holds. -/
def Obligations.InvariantHoldsAtReset : Prop :=
  State.reset.Inv ∧ ∀ (cart : Cartridge) (ramDraw hostDraw : Nat), (State.resetWith cart ramDraw hostDraw).Inv

/-- 10_state.md R27, R29, R31, R35, R38, R39; 60_exceptions.md R453, R456, R457, R465: every step keeps the invariant: memory in
its canonical form, a ROM bank that is never 0, the timer's accumulators and the PPU's clock and line in their ranges, no
pixel off the screen, never Halted and Stopped at once. The returned count is kept in `cycles` (log 6), and a pause of a
halted CPU in `pausedHalted` (log 8). -/
def Obligations.StepKeepsInvariant : Prop :=
  ∀ s t : State, s.Inv → step s = .next t → t.Inv

/-- 20_memory.md R77, R80, 10_state.md R41, 60_exceptions.md R413, R466: no step changes the loaded images, takes back a call
of the sink, sets inBios (the first step at PC = 0x0100 clears it for good), or clears Stopped. -/
def Obligations.StepKeepsImagesAndOutput : Prop :=
  ∀ s t : State, step s = .next t →
    t.cart = s.cart ∧ t.ramDraw = s.ramDraw ∧ (∃ calls, t.sink = s.sink ++ calls) ∧
    (t.ctl.inBios = true → s.ctl.inBios = true) ∧ (s.ctl.stopped = true → t.ctl.stopped = true) ∧
    (s.ctl.stopped = false → s.regs.pc = 0x0100 → t.ctl.inBios = false)

end
end

