-- ==== Sys2Proof/Laws/Devices.lean ====
section
/-! SUPPORT. What the parts of a step around the instruction can change, said once: the timer, the PPU, the interrupt
check. -/

namespace Sys2Proof.Machine

/-- Ticks change TIMA and IF only. -/
theorem tickTimes_frame (n : Nat) (s : State) :
    ∃ tima iflag, State.tickTimes n s = { s with
      timer := { s.timer with tima := tima }, irq := { s.irq with iflag := iflag } } := by
  induction n generalizing s with
  | zero => exact ⟨s.timer.tima, s.irq.iflag, rfl⟩
  | succ n ih =>
    obtain ⟨a, b, h⟩ := ih s.tickTima
    refine ⟨a, b, ?_⟩
    rw [State.tickTimes, h]
    unfold State.tickTima; split <;> rfl

/-- An advance of the timer changes the timer and IF only. -/
theorem advanceTimer_frame (s : State) (c : Nat) :
    ∃ t f, s.advanceTimer c = { s with timer := t, irq := { s.irq with iflag := f } } := by
  unfold State.advanceTimer State.advanceTima
  dsimp only
  split
  · obtain ⟨a, b, h⟩ := tickTimes_frame
      (((s.timer.advanceDiv c).timaAcc + c) / (s.timer.advanceDiv c).period)
      { s with
        timer := { s.timer.advanceDiv c with
                   timaAcc := ((s.timer.advanceDiv c).timaAcc + c) % (s.timer.advanceDiv c).period } }
    exact ⟨_, _, h⟩
  · exact ⟨_, _, rfl⟩

/-- Entering a mode changes the mode and IF only. -/
theorem enterMode_frame (s : State) (m : PpuMode) :
    ∃ f, s.enterMode m = { s with ppu := { s.ppu with mode := m }, irq := { s.irq with iflag := f } } := by
  unfold State.enterMode; dsimp only; split <;> exact ⟨_, rfl⟩

/-- A transition changes the mode, the line and IF, and adds calls to the sink. -/
theorem transition_frame (s : State) :
    ∃ m ly f calls, s.transition = { s with
      ppu := { s.ppu with mode := m, ly := ly }, irq := { s.irq with iflag := f }, sink := s.sink ++ calls } := by
  unfold State.transition
  split
  · obtain ⟨f, h⟩ := enterMode_frame s .readVRAM
    exact ⟨_, _, f, [], by rw [h, List.append_nil]⟩
  · obtain ⟨f, h⟩ := enterMode_frame s.renderLine .hBlank
    rw [h]
    unfold State.renderLine
    dsimp only
    split
    · exact ⟨_, _, f, _, rfl⟩
    · exact ⟨_, _, f, [], by rw [List.append_nil]⟩
  · dsimp only
    split
    · obtain ⟨f, h⟩ := enterMode_frame ((s.setLy (s.ppu.ly + 1)).request .vblank) .vBlank
      rw [h]; exact ⟨_, _, f, _, rfl⟩
    · obtain ⟨f, h⟩ := enterMode_frame (s.setLy (s.ppu.ly + 1)) .readOAM
      rw [h]; exact ⟨_, _, f, [], by rw [List.append_nil]; rfl⟩
  · dsimp only
    split
    · obtain ⟨f, h⟩ := enterMode_frame ((s.setLy (s.ppu.ly + 1)).setLy 0) .readOAM
      rw [h]; exact ⟨_, _, f, [], by rw [List.append_nil]; rfl⟩
    · exact ⟨s.ppu.mode, _, s.irq.iflag, [], by rw [List.append_nil]; rfl⟩

/-- The loop changes the mode, the line, the clock and IF, and adds calls to the sink. -/
theorem modeLoop_frame (n : Nat) (s : State) :
    ∃ m ly mc f calls, State.modeLoop n s = { s with
      ppu := { s.ppu with mode := m, ly := ly, modeClock := mc }
      irq := { s.irq with iflag := f }
      sink := s.sink ++ calls } := by
  induction n generalizing s with
  | zero => exact ⟨_, _, _, _, [], by rw [List.append_nil]; rfl⟩
  | succ n ih =>
    unfold State.modeLoop
    split
    · exact ⟨_, _, _, _, [], by rw [List.append_nil]⟩
    · obtain ⟨m, ly, mc, f, calls, h⟩ := ih (s.setModeClock (s.ppu.modeClock - s.ppu.mode.threshold)).transition
      obtain ⟨m', ly', f', calls', h'⟩ := transition_frame (s.setModeClock (s.ppu.modeClock - s.ppu.mode.threshold))
      rw [h, h']
      exact ⟨m, ly, mc, f, calls' ++ calls, by simp [State.setModeClock, List.append_assoc]⟩

theorem lcdRestart_frame (s : State) :
    ∃ p f, s.lcdRestart = { s with ppu := p, irq := { s.irq with iflag := f } } := by
  unfold State.lcdRestart
  split
  · obtain ⟨f, h⟩ := enterMode_frame { s with ppu := { s.ppu with lcdWasOff := false, modeClock := 0 } } .readOAM
    rw [h]; exact ⟨_, f, rfl⟩
  · exact ⟨s.ppu, s.irq.iflag, rfl⟩

theorem coincidenceCheck_frame (s : State) :
    ∃ p f, s.coincidenceCheck = { s with ppu := p, irq := { s.irq with iflag := f } } := by
  unfold State.coincidenceCheck; dsimp only; split <;> exact ⟨_, _, rfl⟩

/-- An advance of the PPU changes the PPU and IF, and adds calls to the sink. -/
theorem advancePpu_frame (s : State) (c : Nat) :
    ∃ p f calls, s.advancePpu c = { s with ppu := p, irq := { s.irq with iflag := f }, sink := s.sink ++ calls } := by
  unfold State.advancePpu
  split
  · dsimp only
    obtain ⟨p, f, h⟩ := lcdRestart_frame s
    rw [h]
    generalize hn : _ / 80 = n
    obtain ⟨m, ly, mc, f', calls, h'⟩ := modeLoop_frame n
      (State.setModeClock { s with ppu := p, irq := { s.irq with iflag := f } } (p.modeClock + c))
    obtain ⟨p'', f'', h''⟩ := coincidenceCheck_frame (State.modeLoop n
      (State.setModeClock { s with ppu := p, irq := { s.irq with iflag := f } } (p.modeClock + c)))
    rw [h'', h']
    exact ⟨_, _, calls, rfl⟩
  · exact ⟨_, s.irq.iflag, [], by rw [List.append_nil]; rfl⟩

/-- Line 6 of the step changes the timer, the PPU and IF, and adds calls to the sink. -/
theorem advance_frame (s : State) (c : Nat) :
    ∃ t p f calls, (s.advanceTimer c).advancePpu c = { s with
      timer := t, ppu := p, irq := { s.irq with iflag := f }, sink := s.sink ++ calls } := by
  obtain ⟨t, f, h⟩ := advanceTimer_frame s c
  obtain ⟨p, f', calls, h'⟩ := advancePpu_frame (s.advanceTimer c) c
  rw [h', h]; exact ⟨_, _, _, _, rfl⟩

/-- The source found is the one the rule serves (60_exceptions.md R422). -/
theorem servedNext_of_highestPriority {s :
    State} {i : Source} (h : highestPriority s.pending = some i) : ServedNext s i := by
  unfold highestPriority State.pending at h
  unfold ServedNext
  simp only [BitVec.getLsbD_and] at h
  split at h
  · rename_i h0; injection h with h; subst h
    simp at h0
    exact ⟨h0.1, h0.2, fun j hj => by cases j <;> simp [Source.bit] at hj⟩
  rename_i h0
  split at h
  · rename_i h1; injection h with h; subst h
    simp at h0 h1
    refine ⟨h1.1, h1.2, fun j hj => ?_⟩
    cases j <;> simp [Source.bit] at hj ⊢
    all_goals first | (cases hh : s.irq.ie[0] <;> simp_all)
  rename_i h1
  split at h
  · rename_i h2; injection h with h; subst h
    simp at h0 h1 h2
    refine ⟨h2.1, h2.2, fun j hj => ?_⟩
    cases j <;> simp [Source.bit] at hj ⊢
    · cases hh : s.irq.ie[0] <;> simp_all
    · cases hh : s.irq.ie[1] <;> simp_all
  rename_i h2
  split at h
  · rename_i h3; injection h with h; subst h
    simp at h0 h1 h2 h3
    refine ⟨h3.1, h3.2, fun j hj => ?_⟩
    cases j <;> simp [Source.bit] at hj ⊢
    · cases hh : s.irq.ie[0] <;> simp_all
    · cases hh : s.irq.ie[1] <;> simp_all
    · cases hh : s.irq.ie[2] <;> simp_all
  rename_i h3
  split at h
  · rename_i h4; injection h with h; subst h
    simp at h0 h1 h2 h3 h4
    refine ⟨h4.1, h4.2, fun j hj => ?_⟩
    cases j <;> simp [Source.bit] at hj ⊢
    · cases hh : s.irq.ie[0] <;> simp_all
    · cases hh : s.irq.ie[1] <;> simp_all
    · cases hh : s.irq.ie[2] <;> simp_all
    · cases hh : s.irq.ie[3] <;> simp_all
  · cases h

/-- One source at most is served. -/
theorem servedNext_unique {s : State} {i j : Source} (hi : ServedNext s i) (hj : ServedNext s j) : i = j := by
  obtain ⟨a1, a2, a3⟩ := hi
  obtain ⟨b1, b2, b3⟩ := hj
  have h1 : ¬ i.bit < j.bit := fun h => by rcases b3 i h with h | h <;> simp_all
  have h2 : ¬ j.bit < i.bit := fun h => by rcases a3 j h with h | h <;> simp_all
  have : i.bit = j.bit := by omega
  cases i <;> cases j <;> first | rfl | (simp [Source.bit] at this)

theorem highestPriority_eq_none (p : BitVec 5) : highestPriority p = none ↔ p = 0 := by revert p; decide

theorem highestPriority_of_servedNext {s :
    State} {i : Source} (h : ServedNext s i) : highestPriority s.pending = some i := by
  cases hh : highestPriority s.pending with
  | none =>
    rw [highestPriority_eq_none] at hh
    have : s.pending.getLsbD i.bit = true := by rw [State.pending, BitVec.getLsbD_and, h.1, h.2.1]; rfl
    rw [hh] at this; simp at this
  | some j => rw [servedNext_unique h (servedNext_of_highestPriority hh)]

end Sys2Proof.Machine
end

