-- ==== Sys2Proof/Laws/Advance.lean ====
section
/-! SUPPORT. Closed forms of the timer's and the PPU's advance. -/

namespace Sys2Proof.Machine

/-- `n` ticks change TIMA and IF alone, so they commute with setting DIV and the accumulators. -/
theorem tickTimes_setAccumulators (n : Nat) (s : State) (div : Byte) (divAcc timaAcc : Nat) :
    State.tickTimes n { s with timer := { s.timer with div := div, divAcc := divAcc, timaAcc := timaAcc } } =
      { State.tickTimes n s with
        timer := { (State.tickTimes n s).timer with div := div, divAcc := divAcc, timaAcc := timaAcc } } := by
  induction n generalizing s with
  | zero => rfl
  | succ n ih =>
    have h : State.tickTima { s with timer := { s.timer with div := div, divAcc := divAcc, timaAcc := timaAcc } } =
        { s.tickTima with timer := { s.tickTima.timer with div := div, divAcc := divAcc, timaAcc := timaAcc } } := by
      unfold State.tickTima
      dsimp only
      split <;> rfl
    rw [State.tickTimes, h, ih]
    rfl

theorem tickTimes_add (a b : Nat) (s : State) : State.tickTimes b (State.tickTimes a s) = State.tickTimes (a + b) s := by
  induction a generalizing s with
  | zero => rw [Nat.zero_add]; rfl
  | succ n ih => rw [Nat.succ_add]; exact ih _

theorem Timer.period_pos (t : Timer) : 0 < t.period ∧ t.period ≤ 1024 := by unfold Timer.period; split <;> decide

/-- An advance is the ticks from the state before it, with DIV and the accumulators set. -/
theorem advanceTimer_eq (s : State) (c : Nat) : s.advanceTimer c =
    if s.timer.enabled then
      { State.tickTimes ((s.timer.timaAcc + c) / s.timer.period) s with
        timer := { (State.tickTimes ((s.timer.timaAcc + c) / s.timer.period) s).timer with
                   div := s.timer.div + BitVec.ofNat 8 ((s.timer.divAcc + c) / 256)
                   divAcc := (s.timer.divAcc + c) % 256
                   timaAcc := (s.timer.timaAcc + c) % s.timer.period } }
    else { s with timer := s.timer.advanceDiv c } := by
  unfold State.advanceTimer State.advanceTima
  dsimp only
  rw [show (s.timer.advanceDiv c).enabled = s.timer.enabled from rfl,
    show (s.timer.advanceDiv c).period = s.timer.period from rfl]
  split
  · exact tickTimes_setAccumulators _ s _ _ _
  · rfl

/-- Entering a mode: the mode, and lcdStat if its enable bit is set. -/
theorem enterMode_eq (s : State) (m : PpuMode) : s.enterMode m =
    { s with
      ppu := { s.ppu with mode := m }
      irq := { s.irq with iflag := s.irq.iflag ||| (if s.ppu.entryEnabled m then 0b00010 else 0) } } := by
  unfold State.enterMode
  dsimp only
  by_cases h : s.ppu.entryEnabled m = true
  · have h' : Ppu.entryEnabled { s.ppu with mode := m } m = true := h
    rw [h]; simp [State.request, Source.mask, Source.bit]
  · simp [h]

theorem coincidenceCheck_eq (s : State) : s.coincidenceCheck =
    { s with
      ppu := { s.ppu with coincidence := decide (s.ppu.ly = s.ppu.lyc) }
      irq := { s.irq with
               iflag := s.irq.iflag |||
                 (if s.ppu.ly = s.ppu.lyc ∧ s.ppu.coincidence = false ∧ s.ppu.statEnable.getLsbD 3 = true then 0b00010
                  else 0) } } := by
  unfold State.coincidenceCheck
  dsimp only
  by_cases h : s.ppu.ly = s.ppu.lyc ∧ s.ppu.coincidence = false ∧ s.ppu.statEnable.getLsbD 3 = true
  · rw [if_pos h, if_pos (by simp [h.1, h.2.1]; exact h.2.2)]; rfl
  · rw [if_neg h, if_neg (by simpa using h)]; simp

/-- Every mode lasts at least 80 cycles, which bounds the turns of the loop. -/
theorem PpuMode.le_threshold (m : PpuMode) : 80 ≤ m.threshold := by cases m <;> decide

/-- A clock below the threshold ends the loop. -/
theorem modeLoop_of_lt (n : Nat) {s : State} (h : s.ppu.modeClock < s.ppu.mode.threshold) : State.modeLoop n s = s := by
  cases n with
  | zero => rfl
  | succ n => rw [State.modeLoop, if_pos h]

/-- An advance with the LCD on that makes exactly one transition. -/
theorem advancePpu_one {s u : State} {c m : Nat} (hl : s.ppu.lcdc.getLsbD 7 = true) (hw : s.ppu.lcdWasOff = false)
    (hm : m = s.ppu.modeClock + c) (hge : s.ppu.mode.threshold ≤ m)
    (hu : (s.setModeClock (m - s.ppu.mode.threshold)).transition = u) (hlt : u.ppu.modeClock < u.ppu.mode.threshold) :
    s.advancePpu c = u.coincidenceCheck := by
  unfold State.advancePpu
  rw [if_pos hl, show s.lcdRestart = s by unfold State.lcdRestart; rw [hw]; rfl]
  dsimp only
  rw [← hm]
  have h80 : 1 ≤ (s.setModeClock m).ppu.modeClock / 80 := by
    show 1 ≤ m / 80
    have := s.ppu.mode.le_threshold
    omega
  obtain ⟨k, hk⟩ : ∃ k, (s.setModeClock m).ppu.modeClock / 80 = k + 1 := ⟨_, (Nat.sub_add_cancel h80).symm⟩
  have hn : ¬ (s.setModeClock m).ppu.modeClock < (s.setModeClock m).ppu.mode.threshold :=
    show ¬ m < s.ppu.mode.threshold by omega
  rw [hk, State.modeLoop, if_neg hn]
  have hs : ((s.setModeClock m).setModeClock ((s.setModeClock m).ppu.modeClock - (s.setModeClock m).ppu.mode.threshold)) =
      s.setModeClock (m - s.ppu.mode.threshold) := rfl
  rw [hs, hu, modeLoop_of_lt _ hlt]

end Sys2Proof.Machine
end

