-- ==== Sys2Proof/Laws/Memory.lean ====
section
/-! SUPPORT. The laws of the byte lists: read after write, and the canonical form every operation keeps. -/

namespace Sys2Proof.Machine

/-! ## Read after write -/

theorem Memory.lookup_insert_same (m : Memory) (k : Nat) (v : Byte) : (m.insert k v).lookup k = some v := by
  induction m with
  | nil => simp [Memory.insert, Memory.lookup]
  | cons cell rest ih =>
    rcases cell with ⟨k', w⟩
    simp only [Memory.insert]
    split
    · simp [Memory.lookup]
    · split
      · simp [Memory.lookup]
      · rename_i h
        simp [Memory.lookup, ih, Ne.symm h]

theorem Memory.lookup_insert_of_ne (m : Memory) {k q : Nat} (v : Byte) (h : q ≠ k) :
    (m.insert k v).lookup q = m.lookup q := by
  induction m with
  | nil => simp [Memory.insert, Memory.lookup, Ne.symm h]
  | cons cell rest ih =>
    rcases cell with ⟨k', w⟩
    simp only [Memory.insert]
    split
    · simp [Memory.lookup, Ne.symm h]
    · split
      · rename_i hk
        subst hk
        simp [Memory.lookup, Ne.symm h]
      · simp [Memory.lookup, ih]

theorem Memory.lookup_erase_same (m : Memory) (k : Nat) : (m.erase k).lookup k = none := by
  induction m with
  | nil => rfl
  | cons cell rest ih =>
    rcases cell with ⟨k', w⟩
    simp only [Memory.erase]
    split
    · exact ih
    · rename_i h
      simp [Memory.lookup, h, ih]

theorem Memory.lookup_erase_of_ne (m : Memory) {k q : Nat} (h : q ≠ k) : (m.erase k).lookup q = m.lookup q := by
  induction m with
  | nil => rfl
  | cons cell rest ih =>
    rcases cell with ⟨k', w⟩
    simp only [Memory.erase]
    split
    · rename_i hk
      subst hk
      simp [Memory.lookup, ih, Ne.symm h]
    · simp [Memory.lookup, ih]

/-- A read, by what is listed at the key. -/
theorem Memory.read_of_lookup (u : Nat → Option Byte) (m : Memory) (k : Nat) :
    Memory.read u m k = (m.lookup k).or (u k) := by
  unfold Memory.read
  cases m.lookup k <;> rfl

/-- A read of the key written gives the byte written. -/
@[simp] theorem Memory.read_write_same (u : Nat → Option Byte) (m : Memory) (k : Nat) (v : Byte) :
    Memory.read u (Memory.write u m k v) k = some v := by
  rw [Memory.read_of_lookup, Memory.write]
  split
  · rename_i h
    rw [Memory.lookup_erase_same, h]
    rfl
  · rw [Memory.lookup_insert_same]
    rfl

/-- A write leaves every other key alone. -/
theorem Memory.read_write_of_ne (u : Nat → Option Byte) (m : Memory) {k q : Nat} (v : Byte) (h : q ≠ k) :
    Memory.read u (Memory.write u m k v) q = Memory.read u m q := by
  rw [Memory.read_of_lookup, Memory.read_of_lookup, Memory.write]
  split
  · rw [Memory.lookup_erase_of_ne m h]
  · rw [Memory.lookup_insert_of_ne m v h]

/-! ## The canonical form -/

theorem Memory.all_insert (p : Host.Cell → Bool) (m : Memory) (k : Nat) (v : Byte) (hm : m.all p = true)
    (hk : p (k, v) = true) : (m.insert k v).all p = true := by
  induction m with
  | nil => simpa [Memory.insert] using hk
  | cons cell rest ih =>
    rcases cell with ⟨k', w⟩
    simp only [List.all_cons, Bool.and_eq_true] at hm
    simp only [Memory.insert]
    split
    · simp [hk, hm.1, hm.2]
    · split
      · simp [hk, hm.2]
      · simp [hm.1, ih hm.2]

theorem Memory.all_erase (p : Host.Cell → Bool) (m : Memory) (k : Nat) (hm : m.all p = true) :
    (m.erase k).all p = true := by
  induction m with
  | nil => rfl
  | cons cell rest ih =>
    rcases cell with ⟨k', w⟩
    simp only [List.all_cons, Bool.and_eq_true] at hm
    simp only [Memory.erase]
    split
    · exact ih hm.2
    · simp [hm.1, ih hm.2]

theorem Memory.rising_insert (m : Memory) (k : Nat) (v : Byte) (hm : m.rising = true) :
    (m.insert k v).rising = true := by
  induction m with
  | nil => simp [Memory.insert, Memory.rising]
  | cons cell rest ih =>
    rcases cell with ⟨k', w⟩
    simp only [Memory.rising, Bool.and_eq_true] at hm
    simp only [Memory.insert]
    split
    · rename_i hlt
      have hall : rest.all (fun cell => decide (k < cell.1)) = true := by
        refine List.all_eq_true.2 fun c hc => ?_
        have := of_decide_eq_true (List.all_eq_true.1 hm.1 c hc)
        exact decide_eq_true (lt_trans hlt this)
      simp [Memory.rising, hlt, hall, hm.1, hm.2]
    · split
      · rename_i heq
        subst heq
        simp [Memory.rising, hm.1, hm.2]
      · have hlt : k' < k := by omega
        simp [Memory.rising, ih hm.2, Memory.all_insert _ rest k v hm.1 (decide_eq_true hlt)]

theorem Memory.rising_erase (m : Memory) (k : Nat) (hm : m.rising = true) : (m.erase k).rising = true := by
  induction m with
  | nil => rfl
  | cons cell rest ih =>
    rcases cell with ⟨k', w⟩
    simp only [Memory.rising, Bool.and_eq_true] at hm
    simp only [Memory.erase]
    split
    · exact ih hm.2
    · simp [Memory.rising, ih hm.2, Memory.all_erase _ rest k hm.1]

/-- Every write keeps the canonical form. -/
theorem Memory.write_wf (u : Nat → Option Byte) (m : Memory) (k : Nat) (v : Byte) (hm : Memory.wf u m = true) :
    Memory.wf u (Memory.write u m k v) = true := by
  simp only [Memory.wf, Bool.and_eq_true] at hm ⊢
  unfold Memory.write
  split
  · exact ⟨Memory.rising_erase m k hm.1, Memory.all_erase _ m k hm.2⟩
  · rename_i h
    exact ⟨Memory.rising_insert m k v hm.1, Memory.all_insert _ m k v hm.2 (decide_eq_true h)⟩

@[simp] theorem Memory.nil_wf (u : Nat → Option Byte) : Memory.wf u [] = true := rfl

theorem Image.cellsFrom_all_ge (bytes : List Byte) (i j : Nat) (h : j < i) :
    (Image.cellsFrom bytes i).all (fun cell => decide (j < cell.1)) = true := by
  induction bytes generalizing i with
  | nil => rfl
  | cons v rest ih =>
    simp only [Image.cellsFrom]
    split
    · exact ih (i + 1) (by omega)
    · simp [h, ih (i + 1) (by omega)]

/-- A loaded image's byte list is in the canonical form. -/
theorem Image.cellsFrom_wf (bytes : List Byte) (i : Nat) : Memory.wf Image.unlisted (Image.cellsFrom bytes i) = true := by
  induction bytes generalizing i with
  | nil => rfl
  | cons v rest ih =>
    simp only [Image.cellsFrom]
    split
    · exact ih (i + 1)
    · rename_i h
      have hr := ih (i + 1)
      simp only [Memory.wf, Bool.and_eq_true] at hr ⊢
      refine ⟨?_, ?_⟩
      · simp [Memory.rising, hr.1, Image.cellsFrom_all_ge rest (i + 1) i (by omega)]
      · rw [List.all_cons, hr.2]
        simpa [Image.unlisted] using Ne.symm h

/-- Setting a byte keeps an image's byte list in the canonical form. -/
theorem Image.set_wf (img : Image) (i : Nat) (v : Byte) (h : Memory.wf Image.unlisted img.cells = true) :
    Memory.wf Image.unlisted (img.set i v).cells = true := Memory.write_wf _ _ _ _ h

end Sys2Proof.Machine
end

