-- ==== Sys2Proof/Laws/State.lean ====
section
/-! SUPPORT. One lemma for each field under each update of the state, all true by `rfl`, so that no later proof unfolds a
record update; and the register file's own. -/

namespace Sys2Proof.Machine

/-! ## The register file -/

@[simp] theorem Regs.r8_a (g : Regs) : g.r8 .a = g.a := rfl
@[simp] theorem Regs.r8_b (g : Regs) : g.r8 .b = g.b := rfl
@[simp] theorem Regs.r8_c (g : Regs) : g.r8 .c = g.c := rfl
@[simp] theorem Regs.r8_d (g : Regs) : g.r8 .d = g.d := rfl
@[simp] theorem Regs.r8_e (g : Regs) : g.r8 .e = g.e := rfl
@[simp] theorem Regs.r8_h (g : Regs) : g.r8 .h = g.h := rfl
@[simp] theorem Regs.r8_l (g : Regs) : g.r8 .l = g.l := rfl

@[simp] theorem Regs.r8_setR8_same (g : Regs) (r : R8) (v : Byte) : (g.setR8 r v).r8 r = v := by cases r <;> rfl

@[simp] theorem Regs.r8_setR8_of_ne (g : Regs) {r q : R8} (v : Byte) (h : q ≠ r) : (g.setR8 r v).r8 q = g.r8 q := by
  cases r <;> cases q <;> first | rfl | exact absurd rfl h

@[simp] theorem Regs.setR8_flags (g : Regs) (r : R8) (v : Byte) : (g.setR8 r v).flags = g.flags := by cases r <;> rfl
@[simp] theorem Regs.setR8_sp (g : Regs) (r : R8) (v : Byte) : (g.setR8 r v).sp = g.sp := by cases r <;> rfl
@[simp] theorem Regs.setR8_pc (g : Regs) (r : R8) (v : Byte) : (g.setR8 r v).pc = g.pc := by cases r <;> rfl
@[simp] theorem Regs.setPair_flags (g : Regs) (p : Pair) (v : Word) : (g.setPair p v).flags = g.flags := by cases p <;> rfl
@[simp] theorem Regs.setPair_pc (g : Regs) (p : Pair) (v : Word) : (g.setPair p v).pc = g.pc := by cases p <;> rfl
@[simp] theorem Regs.setStackPair_sp (g : Regs) (p : StackPair) (v : Word) : (g.setStackPair p v).sp = g.sp := by
  cases p <;> rfl
@[simp] theorem Regs.setStackPair_pc (g : Regs) (p : StackPair) (v : Word) : (g.setStackPair p v).pc = g.pc := by
  cases p <;> rfl

/-! ## Bytes and words -/

@[simp] theorem highByte_joinBytes (hi lo : Byte) : highByte (joinBytes hi lo) = hi := by
  apply BitVec.eq_of_getLsbD_eq
  intro i h
  simp only [highByte, joinBytes, BitVec.getLsbD_append, BitVec.getLsbD_setWidth, BitVec.getLsbD_ushiftRight]
  simp [h]

@[simp] theorem lowByte_joinBytes (hi lo : Byte) : lowByte (joinBytes hi lo) = lo := by
  apply BitVec.eq_of_getLsbD_eq
  intro i h
  simp only [lowByte, joinBytes, BitVec.getLsbD_append, BitVec.getLsbD_setWidth]
  simp [h]

@[simp] theorem joinBytes_high_low (v : Word) : joinBytes (highByte v) (lowByte v) = v := by
  apply BitVec.eq_of_getLsbD_eq
  intro i h
  simp only [highByte, lowByte, joinBytes, BitVec.getLsbD_append, BitVec.getLsbD_setWidth, BitVec.getLsbD_ushiftRight]
  by_cases h8 : i < 8
  · simp [h8]
  · simp [h8, show i - 8 < 8 by omega, show 8 + (i - 8) = i by omega]

@[simp] theorem Flags.ofByte_toByte (f : Flags) : Flags.ofByte f.toByte = f := by
  rcases f with ⟨z, n, hf, cy⟩
  cases z <;> cases n <;> cases hf <;> cases cy <;> rfl

/-- Reading F after writing it: `v & 0xF0` (10_state.md R22). -/
theorem Flags.toByte_ofByte (v : Byte) : (Flags.ofByte v).toByte = v &&& 0xF0 := by
  revert v; decide

@[simp] theorem Regs.bc_setPair (g : Regs) (v : Word) : (g.setPair .bc v).bc = v := by simp [Regs.setPair, Regs.bc]
@[simp] theorem Regs.de_setPair (g : Regs) (v : Word) : (g.setPair .de v).de = v := by simp [Regs.setPair, Regs.de]
@[simp] theorem Regs.hl_setHl (g : Regs) (v : Word) : (g.setHl v).hl = v := by simp [Regs.setHl, Regs.hl]

/-- What is read of a pair after it is written (10_state.md R21). -/
@[simp] theorem Regs.pair_setPair (g : Regs) (p : Pair) (v : Word) : (g.setPair p v).pair p = v := by
  cases p <;> simp [Regs.pair, Regs.setPair, Regs.setHl, Regs.bc, Regs.de, Regs.hl]

/-! ## The state, field by field -/

@[simp] theorem State.setRegs_regs (s : State) (g : Regs) : (s.setRegs g).regs = g := rfl
@[simp] theorem State.setRegs_ctl (s : State) (g : Regs) : (s.setRegs g).ctl = s.ctl := rfl
@[simp] theorem State.setRegs_irq (s : State) (g : Regs) : (s.setRegs g).irq = s.irq := rfl
@[simp] theorem State.setRegs_timer (s : State) (g : Regs) : (s.setRegs g).timer = s.timer := rfl
@[simp] theorem State.setRegs_ppu (s : State) (g : Regs) : (s.setRegs g).ppu = s.ppu := rfl
@[simp] theorem State.setRegs_mbc (s : State) (g : Regs) : (s.setRegs g).mbc = s.mbc := rfl
@[simp] theorem State.setRegs_joypSelect (s : State) (g : Regs) : (s.setRegs g).joypSelect = s.joypSelect := rfl
@[simp] theorem State.setRegs_mem (s : State) (g : Regs) : (s.setRegs g).mem = s.mem := rfl
@[simp] theorem State.setRegs_cart (s : State) (g : Regs) : (s.setRegs g).cart = s.cart := rfl
@[simp] theorem State.setRegs_sink (s : State) (g : Regs) : (s.setRegs g).sink = s.sink := rfl
@[simp] theorem State.setRegs_ramDraw (s : State) (g : Regs) : (s.setRegs g).ramDraw = s.ramDraw := rfl
@[simp] theorem State.setRegs_hostDraw (s : State) (g : Regs) : (s.setRegs g).hostDraw = s.hostDraw := rfl

@[simp] theorem State.setR8_regs (s : State) (r : R8) (v : Byte) : (s.setR8 r v).regs = s.regs.setR8 r v := rfl
@[simp] theorem State.setR8_ctl (s : State) (r : R8) (v : Byte) : (s.setR8 r v).ctl = s.ctl := rfl
@[simp] theorem State.setR8_irq (s : State) (r : R8) (v : Byte) : (s.setR8 r v).irq = s.irq := rfl
@[simp] theorem State.setR8_timer (s : State) (r : R8) (v : Byte) : (s.setR8 r v).timer = s.timer := rfl
@[simp] theorem State.setR8_ppu (s : State) (r : R8) (v : Byte) : (s.setR8 r v).ppu = s.ppu := rfl
@[simp] theorem State.setR8_mbc (s : State) (r : R8) (v : Byte) : (s.setR8 r v).mbc = s.mbc := rfl
@[simp] theorem State.setR8_joypSelect (s : State) (r : R8) (v : Byte) : (s.setR8 r v).joypSelect = s.joypSelect := rfl
@[simp] theorem State.setR8_mem (s : State) (r : R8) (v : Byte) : (s.setR8 r v).mem = s.mem := rfl
@[simp] theorem State.setR8_cart (s : State) (r : R8) (v : Byte) : (s.setR8 r v).cart = s.cart := rfl
@[simp] theorem State.setR8_sink (s : State) (r : R8) (v : Byte) : (s.setR8 r v).sink = s.sink := rfl
@[simp] theorem State.setR8_ramDraw (s : State) (r : R8) (v : Byte) : (s.setR8 r v).ramDraw = s.ramDraw := rfl
@[simp] theorem State.setR8_hostDraw (s : State) (r : R8) (v : Byte) : (s.setR8 r v).hostDraw = s.hostDraw := rfl

@[simp] theorem State.setA_regs (s : State) (v : Byte) : (s.setA v).regs = { s.regs with a := v } := rfl
@[simp] theorem State.setA_ctl (s : State) (v : Byte) : (s.setA v).ctl = s.ctl := rfl
@[simp] theorem State.setA_irq (s : State) (v : Byte) : (s.setA v).irq = s.irq := rfl
@[simp] theorem State.setA_timer (s : State) (v : Byte) : (s.setA v).timer = s.timer := rfl
@[simp] theorem State.setA_ppu (s : State) (v : Byte) : (s.setA v).ppu = s.ppu := rfl
@[simp] theorem State.setA_mbc (s : State) (v : Byte) : (s.setA v).mbc = s.mbc := rfl
@[simp] theorem State.setA_joypSelect (s : State) (v : Byte) : (s.setA v).joypSelect = s.joypSelect := rfl
@[simp] theorem State.setA_mem (s : State) (v : Byte) : (s.setA v).mem = s.mem := rfl
@[simp] theorem State.setA_cart (s : State) (v : Byte) : (s.setA v).cart = s.cart := rfl
@[simp] theorem State.setA_sink (s : State) (v : Byte) : (s.setA v).sink = s.sink := rfl
@[simp] theorem State.setA_ramDraw (s : State) (v : Byte) : (s.setA v).ramDraw = s.ramDraw := rfl
@[simp] theorem State.setA_hostDraw (s : State) (v : Byte) : (s.setA v).hostDraw = s.hostDraw := rfl

@[simp] theorem State.setHl_regs (s : State) (v : Word) : (s.setHl v).regs = s.regs.setHl v := rfl
@[simp] theorem State.setHl_ctl (s : State) (v : Word) : (s.setHl v).ctl = s.ctl := rfl
@[simp] theorem State.setHl_irq (s : State) (v : Word) : (s.setHl v).irq = s.irq := rfl
@[simp] theorem State.setHl_timer (s : State) (v : Word) : (s.setHl v).timer = s.timer := rfl
@[simp] theorem State.setHl_ppu (s : State) (v : Word) : (s.setHl v).ppu = s.ppu := rfl
@[simp] theorem State.setHl_mbc (s : State) (v : Word) : (s.setHl v).mbc = s.mbc := rfl
@[simp] theorem State.setHl_joypSelect (s : State) (v : Word) : (s.setHl v).joypSelect = s.joypSelect := rfl
@[simp] theorem State.setHl_mem (s : State) (v : Word) : (s.setHl v).mem = s.mem := rfl
@[simp] theorem State.setHl_cart (s : State) (v : Word) : (s.setHl v).cart = s.cart := rfl
@[simp] theorem State.setHl_sink (s : State) (v : Word) : (s.setHl v).sink = s.sink := rfl
@[simp] theorem State.setHl_ramDraw (s : State) (v : Word) : (s.setHl v).ramDraw = s.ramDraw := rfl
@[simp] theorem State.setHl_hostDraw (s : State) (v : Word) : (s.setHl v).hostDraw = s.hostDraw := rfl

@[simp] theorem State.setSp_regs (s : State) (v : Word) : (s.setSp v).regs = { s.regs with sp := v } := rfl
@[simp] theorem State.setSp_ctl (s : State) (v : Word) : (s.setSp v).ctl = s.ctl := rfl
@[simp] theorem State.setSp_irq (s : State) (v : Word) : (s.setSp v).irq = s.irq := rfl
@[simp] theorem State.setSp_timer (s : State) (v : Word) : (s.setSp v).timer = s.timer := rfl
@[simp] theorem State.setSp_ppu (s : State) (v : Word) : (s.setSp v).ppu = s.ppu := rfl
@[simp] theorem State.setSp_mbc (s : State) (v : Word) : (s.setSp v).mbc = s.mbc := rfl
@[simp] theorem State.setSp_joypSelect (s : State) (v : Word) : (s.setSp v).joypSelect = s.joypSelect := rfl
@[simp] theorem State.setSp_mem (s : State) (v : Word) : (s.setSp v).mem = s.mem := rfl
@[simp] theorem State.setSp_cart (s : State) (v : Word) : (s.setSp v).cart = s.cart := rfl
@[simp] theorem State.setSp_sink (s : State) (v : Word) : (s.setSp v).sink = s.sink := rfl
@[simp] theorem State.setSp_ramDraw (s : State) (v : Word) : (s.setSp v).ramDraw = s.ramDraw := rfl
@[simp] theorem State.setSp_hostDraw (s : State) (v : Word) : (s.setSp v).hostDraw = s.hostDraw := rfl

@[simp] theorem State.setPc_regs (s : State) (v : Word) : (s.setPc v).regs = { s.regs with pc := v } := rfl
@[simp] theorem State.setPc_ctl (s : State) (v : Word) : (s.setPc v).ctl = s.ctl := rfl
@[simp] theorem State.setPc_irq (s : State) (v : Word) : (s.setPc v).irq = s.irq := rfl
@[simp] theorem State.setPc_timer (s : State) (v : Word) : (s.setPc v).timer = s.timer := rfl
@[simp] theorem State.setPc_ppu (s : State) (v : Word) : (s.setPc v).ppu = s.ppu := rfl
@[simp] theorem State.setPc_mbc (s : State) (v : Word) : (s.setPc v).mbc = s.mbc := rfl
@[simp] theorem State.setPc_joypSelect (s : State) (v : Word) : (s.setPc v).joypSelect = s.joypSelect := rfl
@[simp] theorem State.setPc_mem (s : State) (v : Word) : (s.setPc v).mem = s.mem := rfl
@[simp] theorem State.setPc_cart (s : State) (v : Word) : (s.setPc v).cart = s.cart := rfl
@[simp] theorem State.setPc_sink (s : State) (v : Word) : (s.setPc v).sink = s.sink := rfl
@[simp] theorem State.setPc_ramDraw (s : State) (v : Word) : (s.setPc v).ramDraw = s.ramDraw := rfl
@[simp] theorem State.setPc_hostDraw (s : State) (v : Word) : (s.setPc v).hostDraw = s.hostDraw := rfl

@[simp] theorem State.setFlags_regs (s : State) (f : Flags) : (s.setFlags f).regs = { s.regs with flags := f } := rfl
@[simp] theorem State.setFlags_ctl (s : State) (f : Flags) : (s.setFlags f).ctl = s.ctl := rfl
@[simp] theorem State.setFlags_irq (s : State) (f : Flags) : (s.setFlags f).irq = s.irq := rfl
@[simp] theorem State.setFlags_timer (s : State) (f : Flags) : (s.setFlags f).timer = s.timer := rfl
@[simp] theorem State.setFlags_ppu (s : State) (f : Flags) : (s.setFlags f).ppu = s.ppu := rfl
@[simp] theorem State.setFlags_mbc (s : State) (f : Flags) : (s.setFlags f).mbc = s.mbc := rfl
@[simp] theorem State.setFlags_joypSelect (s : State) (f : Flags) : (s.setFlags f).joypSelect = s.joypSelect := rfl
@[simp] theorem State.setFlags_mem (s : State) (f : Flags) : (s.setFlags f).mem = s.mem := rfl
@[simp] theorem State.setFlags_cart (s : State) (f : Flags) : (s.setFlags f).cart = s.cart := rfl
@[simp] theorem State.setFlags_sink (s : State) (f : Flags) : (s.setFlags f).sink = s.sink := rfl
@[simp] theorem State.setFlags_ramDraw (s : State) (f : Flags) : (s.setFlags f).ramDraw = s.ramDraw := rfl
@[simp] theorem State.setFlags_hostDraw (s : State) (f : Flags) : (s.setFlags f).hostDraw = s.hostDraw := rfl

@[simp] theorem State.setPair_regs (s : State) (p : Pair) (v : Word) : (s.setPair p v).regs = s.regs.setPair p v := rfl
@[simp] theorem State.setPair_ctl (s : State) (p : Pair) (v : Word) : (s.setPair p v).ctl = s.ctl := rfl
@[simp] theorem State.setPair_irq (s : State) (p : Pair) (v : Word) : (s.setPair p v).irq = s.irq := rfl
@[simp] theorem State.setPair_timer (s : State) (p : Pair) (v : Word) : (s.setPair p v).timer = s.timer := rfl
@[simp] theorem State.setPair_ppu (s : State) (p : Pair) (v : Word) : (s.setPair p v).ppu = s.ppu := rfl
@[simp] theorem State.setPair_mbc (s : State) (p : Pair) (v : Word) : (s.setPair p v).mbc = s.mbc := rfl
@[simp] theorem State.setPair_joypSelect (s : State) (p : Pair) (v : Word) : (s.setPair p v).joypSelect = s.joypSelect := rfl
@[simp] theorem State.setPair_mem (s : State) (p : Pair) (v : Word) : (s.setPair p v).mem = s.mem := rfl
@[simp] theorem State.setPair_cart (s : State) (p : Pair) (v : Word) : (s.setPair p v).cart = s.cart := rfl
@[simp] theorem State.setPair_sink (s : State) (p : Pair) (v : Word) : (s.setPair p v).sink = s.sink := rfl
@[simp] theorem State.setPair_ramDraw (s : State) (p : Pair) (v : Word) : (s.setPair p v).ramDraw = s.ramDraw := rfl
@[simp] theorem State.setPair_hostDraw (s : State) (p : Pair) (v : Word) : (s.setPair p v).hostDraw = s.hostDraw := rfl

@[simp] theorem State.popped_regs (s : State) : s.popped.regs = { s.regs with sp := s.regs.sp + 2 } := rfl
@[simp] theorem State.popped_ctl (s : State) : s.popped.ctl = s.ctl := rfl
@[simp] theorem State.popped_irq (s : State) : s.popped.irq = s.irq := rfl
@[simp] theorem State.popped_timer (s : State) : s.popped.timer = s.timer := rfl
@[simp] theorem State.popped_ppu (s : State) : s.popped.ppu = s.ppu := rfl
@[simp] theorem State.popped_mbc (s : State) : s.popped.mbc = s.mbc := rfl
@[simp] theorem State.popped_joypSelect (s : State) : s.popped.joypSelect = s.joypSelect := rfl
@[simp] theorem State.popped_mem (s : State) : s.popped.mem = s.mem := rfl
@[simp] theorem State.popped_cart (s : State) : s.popped.cart = s.cart := rfl
@[simp] theorem State.popped_sink (s : State) : s.popped.sink = s.sink := rfl
@[simp] theorem State.popped_ramDraw (s : State) : s.popped.ramDraw = s.ramDraw := rfl
@[simp] theorem State.popped_hostDraw (s : State) : s.popped.hostDraw = s.hostDraw := rfl

@[simp] theorem State.took_regs (s : State) (n : Nat) : (s.took n).regs = s.regs := rfl
@[simp] theorem State.took_ctl (s : State) (n : Nat) : (s.took n).ctl = { s.ctl with cycles := n } := rfl
@[simp] theorem State.took_irq (s : State) (n : Nat) : (s.took n).irq = s.irq := rfl
@[simp] theorem State.took_timer (s : State) (n : Nat) : (s.took n).timer = s.timer := rfl
@[simp] theorem State.took_ppu (s : State) (n : Nat) : (s.took n).ppu = s.ppu := rfl
@[simp] theorem State.took_mbc (s : State) (n : Nat) : (s.took n).mbc = s.mbc := rfl
@[simp] theorem State.took_joypSelect (s : State) (n : Nat) : (s.took n).joypSelect = s.joypSelect := rfl
@[simp] theorem State.took_mem (s : State) (n : Nat) : (s.took n).mem = s.mem := rfl
@[simp] theorem State.took_cart (s : State) (n : Nat) : (s.took n).cart = s.cart := rfl
@[simp] theorem State.took_sink (s : State) (n : Nat) : (s.took n).sink = s.sink := rfl
@[simp] theorem State.took_ramDraw (s : State) (n : Nat) : (s.took n).ramDraw = s.ramDraw := rfl
@[simp] theorem State.took_hostDraw (s : State) (n : Nat) : (s.took n).hostDraw = s.hostDraw := rfl

@[simp] theorem State.setIme_regs (s : State) (v : Bool) : (s.setIme v).regs = s.regs := rfl
@[simp] theorem State.setIme_ctl (s : State) (v : Bool) : (s.setIme v).ctl = { s.ctl with ime := v } := rfl
@[simp] theorem State.setIme_irq (s : State) (v : Bool) : (s.setIme v).irq = s.irq := rfl
@[simp] theorem State.setIme_timer (s : State) (v : Bool) : (s.setIme v).timer = s.timer := rfl
@[simp] theorem State.setIme_ppu (s : State) (v : Bool) : (s.setIme v).ppu = s.ppu := rfl
@[simp] theorem State.setIme_mbc (s : State) (v : Bool) : (s.setIme v).mbc = s.mbc := rfl
@[simp] theorem State.setIme_joypSelect (s : State) (v : Bool) : (s.setIme v).joypSelect = s.joypSelect := rfl
@[simp] theorem State.setIme_mem (s : State) (v : Bool) : (s.setIme v).mem = s.mem := rfl
@[simp] theorem State.setIme_cart (s : State) (v : Bool) : (s.setIme v).cart = s.cart := rfl
@[simp] theorem State.setIme_sink (s : State) (v : Bool) : (s.setIme v).sink = s.sink := rfl
@[simp] theorem State.setIme_ramDraw (s : State) (v : Bool) : (s.setIme v).ramDraw = s.ramDraw := rfl
@[simp] theorem State.setIme_hostDraw (s : State) (v : Bool) : (s.setIme v).hostDraw = s.hostDraw := rfl

@[simp] theorem State.wake_regs (s : State) : s.wake.regs = s.regs := rfl
@[simp] theorem State.wake_ctl (s : State) : s.wake.ctl = { s.ctl with halted := false } := rfl
@[simp] theorem State.wake_irq (s : State) : s.wake.irq = s.irq := rfl
@[simp] theorem State.wake_timer (s : State) : s.wake.timer = s.timer := rfl
@[simp] theorem State.wake_ppu (s : State) : s.wake.ppu = s.ppu := rfl
@[simp] theorem State.wake_mbc (s : State) : s.wake.mbc = s.mbc := rfl
@[simp] theorem State.wake_joypSelect (s : State) : s.wake.joypSelect = s.joypSelect := rfl
@[simp] theorem State.wake_mem (s : State) : s.wake.mem = s.mem := rfl
@[simp] theorem State.wake_cart (s : State) : s.wake.cart = s.cart := rfl
@[simp] theorem State.wake_sink (s : State) : s.wake.sink = s.sink := rfl
@[simp] theorem State.wake_ramDraw (s : State) : s.wake.ramDraw = s.ramDraw := rfl
@[simp] theorem State.wake_hostDraw (s : State) : s.wake.hostDraw = s.hostDraw := rfl

@[simp] theorem State.heldStep_regs (s : State) : s.heldStep.regs = s.regs := rfl
@[simp] theorem State.heldStep_ctl (s : State) : s.heldStep.ctl = { s.ctl with cycles := 0 } := rfl
@[simp] theorem State.heldStep_irq (s : State) : s.heldStep.irq = s.irq := rfl
@[simp] theorem State.heldStep_timer (s : State) : s.heldStep.timer = s.timer := rfl
@[simp] theorem State.heldStep_ppu (s : State) : s.heldStep.ppu = s.ppu := rfl
@[simp] theorem State.heldStep_mbc (s : State) : s.heldStep.mbc = s.mbc := rfl
@[simp] theorem State.heldStep_joypSelect (s : State) : s.heldStep.joypSelect = s.joypSelect := rfl
@[simp] theorem State.heldStep_mem (s : State) : s.heldStep.mem = s.mem := rfl
@[simp] theorem State.heldStep_cart (s : State) : s.heldStep.cart = s.cart := rfl
@[simp] theorem State.heldStep_sink (s : State) : s.heldStep.sink = s.sink := rfl
@[simp] theorem State.heldStep_ramDraw (s : State) : s.heldStep.ramDraw = s.ramDraw := rfl
@[simp] theorem State.heldStep_hostDraw (s : State) : s.heldStep.hostDraw = s.hostDraw := rfl

@[simp] theorem State.raiseIllegal_regs (s : State) (op : Byte) : (s.raiseIllegal op).regs = s.regs := rfl
@[simp] theorem State.raiseIllegal_ctl (s : State) (op : Byte) : (s.raiseIllegal op).ctl = { s.ctl with fault := some { op := op, addr := s.regs.pc - 1 }, cycles := 0 } := rfl
@[simp] theorem State.raiseIllegal_irq (s : State) (op : Byte) : (s.raiseIllegal op).irq = s.irq := rfl
@[simp] theorem State.raiseIllegal_timer (s : State) (op : Byte) : (s.raiseIllegal op).timer = s.timer := rfl
@[simp] theorem State.raiseIllegal_ppu (s : State) (op : Byte) : (s.raiseIllegal op).ppu = s.ppu := rfl
@[simp] theorem State.raiseIllegal_mbc (s : State) (op : Byte) : (s.raiseIllegal op).mbc = s.mbc := rfl
@[simp] theorem State.raiseIllegal_joypSelect (s : State) (op : Byte) : (s.raiseIllegal op).joypSelect = s.joypSelect := rfl
@[simp] theorem State.raiseIllegal_mem (s : State) (op : Byte) : (s.raiseIllegal op).mem = s.mem := rfl
@[simp] theorem State.raiseIllegal_cart (s : State) (op : Byte) : (s.raiseIllegal op).cart = s.cart := rfl
@[simp] theorem State.raiseIllegal_sink (s : State) (op : Byte) : (s.raiseIllegal op).sink = s.sink := rfl
@[simp] theorem State.raiseIllegal_ramDraw (s : State) (op : Byte) : (s.raiseIllegal op).ramDraw = s.ramDraw := rfl
@[simp] theorem State.raiseIllegal_hostDraw (s : State) (op : Byte) : (s.raiseIllegal op).hostDraw = s.hostDraw := rfl

@[simp] theorem State.request_regs (s : State) (i : Source) : (s.request i).regs = s.regs := rfl
@[simp] theorem State.request_ctl (s : State) (i : Source) : (s.request i).ctl = s.ctl := rfl
@[simp] theorem State.request_irq (s : State) (i : Source) : (s.request i).irq = { s.irq with iflag := s.irq.iflag ||| i.mask } := rfl
@[simp] theorem State.request_timer (s : State) (i : Source) : (s.request i).timer = s.timer := rfl
@[simp] theorem State.request_ppu (s : State) (i : Source) : (s.request i).ppu = s.ppu := rfl
@[simp] theorem State.request_mbc (s : State) (i : Source) : (s.request i).mbc = s.mbc := rfl
@[simp] theorem State.request_joypSelect (s : State) (i : Source) : (s.request i).joypSelect = s.joypSelect := rfl
@[simp] theorem State.request_mem (s : State) (i : Source) : (s.request i).mem = s.mem := rfl
@[simp] theorem State.request_cart (s : State) (i : Source) : (s.request i).cart = s.cart := rfl
@[simp] theorem State.request_sink (s : State) (i : Source) : (s.request i).sink = s.sink := rfl
@[simp] theorem State.request_ramDraw (s : State) (i : Source) : (s.request i).ramDraw = s.ramDraw := rfl
@[simp] theorem State.request_hostDraw (s : State) (i : Source) : (s.request i).hostDraw = s.hostDraw := rfl

@[simp] theorem State.setCell_regs (s : State) (key : Nat) (v : Byte) : (s.setCell key v).regs = s.regs := rfl
@[simp] theorem State.setCell_ctl (s : State) (key : Nat) (v : Byte) : (s.setCell key v).ctl = s.ctl := rfl
@[simp] theorem State.setCell_irq (s : State) (key : Nat) (v : Byte) : (s.setCell key v).irq = s.irq := rfl
@[simp] theorem State.setCell_timer (s : State) (key : Nat) (v : Byte) : (s.setCell key v).timer = s.timer := rfl
@[simp] theorem State.setCell_ppu (s : State) (key : Nat) (v : Byte) : (s.setCell key v).ppu = s.ppu := rfl
@[simp] theorem State.setCell_mbc (s : State) (key : Nat) (v : Byte) : (s.setCell key v).mbc = s.mbc := rfl
@[simp] theorem State.setCell_joypSelect (s : State) (key : Nat) (v : Byte) : (s.setCell key v).joypSelect = s.joypSelect := rfl
@[simp] theorem State.setCell_mem (s : State) (key : Nat) (v : Byte) : (s.setCell key v).mem = Memory.write unlistedCell s.mem key v := rfl
@[simp] theorem State.setCell_cart (s : State) (key : Nat) (v : Byte) : (s.setCell key v).cart = s.cart := rfl
@[simp] theorem State.setCell_sink (s : State) (key : Nat) (v : Byte) : (s.setCell key v).sink = s.sink := rfl
@[simp] theorem State.setCell_ramDraw (s : State) (key : Nat) (v : Byte) : (s.setCell key v).ramDraw = s.ramDraw := rfl
@[simp] theorem State.setCell_hostDraw (s : State) (key : Nat) (v : Byte) : (s.setCell key v).hostDraw = s.hostDraw := rfl

@[simp] theorem State.emit_regs (s : State) (calls : List SinkCall) : (s.emit calls).regs = s.regs := rfl
@[simp] theorem State.emit_ctl (s : State) (calls : List SinkCall) : (s.emit calls).ctl = s.ctl := rfl
@[simp] theorem State.emit_irq (s : State) (calls : List SinkCall) : (s.emit calls).irq = s.irq := rfl
@[simp] theorem State.emit_timer (s : State) (calls : List SinkCall) : (s.emit calls).timer = s.timer := rfl
@[simp] theorem State.emit_ppu (s : State) (calls : List SinkCall) : (s.emit calls).ppu = s.ppu := rfl
@[simp] theorem State.emit_mbc (s : State) (calls : List SinkCall) : (s.emit calls).mbc = s.mbc := rfl
@[simp] theorem State.emit_joypSelect (s : State) (calls : List SinkCall) : (s.emit calls).joypSelect = s.joypSelect := rfl
@[simp] theorem State.emit_mem (s : State) (calls : List SinkCall) : (s.emit calls).mem = s.mem := rfl
@[simp] theorem State.emit_cart (s : State) (calls : List SinkCall) : (s.emit calls).cart = s.cart := rfl
@[simp] theorem State.emit_sink (s : State) (calls : List SinkCall) : (s.emit calls).sink = s.sink ++ calls := rfl
@[simp] theorem State.emit_ramDraw (s : State) (calls : List SinkCall) : (s.emit calls).ramDraw = s.ramDraw := rfl
@[simp] theorem State.emit_hostDraw (s : State) (calls : List SinkCall) : (s.emit calls).hostDraw = s.hostDraw := rfl

@[simp] theorem State.setLy_regs (s : State) (v : Byte) : (s.setLy v).regs = s.regs := rfl
@[simp] theorem State.setLy_ctl (s : State) (v : Byte) : (s.setLy v).ctl = s.ctl := rfl
@[simp] theorem State.setLy_irq (s : State) (v : Byte) : (s.setLy v).irq = s.irq := rfl
@[simp] theorem State.setLy_timer (s : State) (v : Byte) : (s.setLy v).timer = s.timer := rfl
@[simp] theorem State.setLy_ppu (s : State) (v : Byte) : (s.setLy v).ppu = { s.ppu with ly := v } := rfl
@[simp] theorem State.setLy_mbc (s : State) (v : Byte) : (s.setLy v).mbc = s.mbc := rfl
@[simp] theorem State.setLy_joypSelect (s : State) (v : Byte) : (s.setLy v).joypSelect = s.joypSelect := rfl
@[simp] theorem State.setLy_mem (s : State) (v : Byte) : (s.setLy v).mem = s.mem := rfl
@[simp] theorem State.setLy_cart (s : State) (v : Byte) : (s.setLy v).cart = s.cart := rfl
@[simp] theorem State.setLy_sink (s : State) (v : Byte) : (s.setLy v).sink = s.sink := rfl
@[simp] theorem State.setLy_ramDraw (s : State) (v : Byte) : (s.setLy v).ramDraw = s.ramDraw := rfl
@[simp] theorem State.setLy_hostDraw (s : State) (v : Byte) : (s.setLy v).hostDraw = s.hostDraw := rfl

@[simp] theorem State.setModeClock_regs (s : State) (v : Nat) : (s.setModeClock v).regs = s.regs := rfl
@[simp] theorem State.setModeClock_ctl (s : State) (v : Nat) : (s.setModeClock v).ctl = s.ctl := rfl
@[simp] theorem State.setModeClock_irq (s : State) (v : Nat) : (s.setModeClock v).irq = s.irq := rfl
@[simp] theorem State.setModeClock_timer (s : State) (v : Nat) : (s.setModeClock v).timer = s.timer := rfl
@[simp] theorem State.setModeClock_ppu (s : State) (v : Nat) : (s.setModeClock v).ppu = { s.ppu with modeClock := v } := rfl
@[simp] theorem State.setModeClock_mbc (s : State) (v : Nat) : (s.setModeClock v).mbc = s.mbc := rfl
@[simp] theorem State.setModeClock_joypSelect (s : State) (v : Nat) : (s.setModeClock v).joypSelect = s.joypSelect := rfl
@[simp] theorem State.setModeClock_mem (s : State) (v : Nat) : (s.setModeClock v).mem = s.mem := rfl
@[simp] theorem State.setModeClock_cart (s : State) (v : Nat) : (s.setModeClock v).cart = s.cart := rfl
@[simp] theorem State.setModeClock_sink (s : State) (v : Nat) : (s.setModeClock v).sink = s.sink := rfl
@[simp] theorem State.setModeClock_ramDraw (s : State) (v : Nat) : (s.setModeClock v).ramDraw = s.ramDraw := rfl
@[simp] theorem State.setModeClock_hostDraw (s : State) (v : Nat) : (s.setModeClock v).hostDraw = s.hostDraw := rfl

@[simp] theorem State.nextSnapshot_regs (s : State) : s.nextSnapshot.regs = s.regs := rfl
@[simp] theorem State.nextSnapshot_ctl (s : State) : s.nextSnapshot.ctl = s.ctl := rfl
@[simp] theorem State.nextSnapshot_irq (s : State) : s.nextSnapshot.irq = s.irq := rfl
@[simp] theorem State.nextSnapshot_timer (s : State) : s.nextSnapshot.timer = s.timer := rfl
@[simp] theorem State.nextSnapshot_ppu (s : State) : s.nextSnapshot.ppu = s.ppu := rfl
@[simp] theorem State.nextSnapshot_mbc (s : State) : s.nextSnapshot.mbc = s.mbc := rfl
@[simp] theorem State.nextSnapshot_joypSelect (s : State) : s.nextSnapshot.joypSelect = s.joypSelect := rfl
@[simp] theorem State.nextSnapshot_mem (s : State) : s.nextSnapshot.mem = s.mem := rfl
@[simp] theorem State.nextSnapshot_cart (s : State) : s.nextSnapshot.cart = s.cart := rfl
@[simp] theorem State.nextSnapshot_sink (s : State) : s.nextSnapshot.sink = s.sink := rfl
@[simp] theorem State.nextSnapshot_ramDraw (s : State) : s.nextSnapshot.ramDraw = s.ramDraw := rfl
@[simp] theorem State.nextSnapshot_hostDraw (s : State) : s.nextSnapshot.hostDraw = s.hostDraw + 1 := rfl

end Sys2Proof.Machine
end

