-- ==== Sys2Proof/Laws/Bus.lean ====
section
/-! SUPPORT. The laws of the bus: what a write leaves alone, what a read depends on, and read after write. -/

namespace Sys2Proof.Machine

/-! ## What a write never changes -/

/-- A write of a register changes that register's component and nothing else. -/
theorem State.writeReg_cases (s : State) (r : IoReg) (v : Byte) :
    ∃ j q t p, s.writeReg r v = { s with joypSelect := j, irq := q, timer := t, ppu := p } := by
  cases r <;> exact ⟨_, _, _, _, rfl⟩

/-- A write changes the MBC's registers, or the cells, or the registers of the I/O window, and nothing else. -/
theorem State.memWrite_cases (s : State) (a : Word) (v : Byte) :
    ∃ j q t p m mem, s.memWrite a v = { s with joypSelect := j, irq := q, timer := t, ppu := p, mbc := m, mem := mem } := by
  unfold State.memWrite
  split
  · unfold State.writeControl
    split <;> exact ⟨_, _, _, _, _, _, rfl⟩
  · unfold State.writeTarget
    split
    · exact ⟨_, _, _, _, _, _, rfl⟩
    · rename_i r _
      obtain ⟨j, q, t, p, h⟩ := s.writeReg_cases r v
      exact ⟨_, _, _, _, _, _, h⟩
    all_goals exact ⟨_, _, _, _, _, _, rfl⟩

@[simp] theorem State.memWrite_regs (s : State) (a : Word) (v : Byte) : (s.memWrite a v).regs = s.regs := by
  obtain ⟨_, _, _, _, _, _, h⟩ := s.memWrite_cases a v; rw [h]
@[simp] theorem State.memWrite_ctl (s : State) (a : Word) (v : Byte) : (s.memWrite a v).ctl = s.ctl := by
  obtain ⟨_, _, _, _, _, _, h⟩ := s.memWrite_cases a v; rw [h]
@[simp] theorem State.memWrite_cart (s : State) (a : Word) (v : Byte) : (s.memWrite a v).cart = s.cart := by
  obtain ⟨_, _, _, _, _, _, h⟩ := s.memWrite_cases a v; rw [h]
@[simp] theorem State.memWrite_sink (s : State) (a : Word) (v : Byte) : (s.memWrite a v).sink = s.sink := by
  obtain ⟨_, _, _, _, _, _, h⟩ := s.memWrite_cases a v; rw [h]
@[simp] theorem State.memWrite_ramDraw (s : State) (a : Word) (v : Byte) : (s.memWrite a v).ramDraw = s.ramDraw := by
  obtain ⟨_, _, _, _, _, _, h⟩ := s.memWrite_cases a v; rw [h]
@[simp] theorem State.memWrite_hostDraw (s : State) (a : Word) (v : Byte) : (s.memWrite a v).hostDraw = s.hostDraw := by
  obtain ⟨_, _, _, _, _, _, h⟩ := s.memWrite_cases a v; rw [h]

/-- A write at or above 0x8000 is a write of the storage the address selects. -/
theorem State.memWrite_of_ge (s : State) {a : Word} (v : Byte) (h : 0x8000 ≤ a.toNat) :
    s.memWrite a v = s.writeTarget (s.locate a) v := by
  rw [State.memWrite, if_neg (by omega)]

/-- A write below 0x8000 is an MBC control write: "never actually mutate ROM contents" (20_memory.md R80). -/
theorem State.memWrite_of_lt (s : State) {a : Word} (v : Byte) (h : a.toNat < 0x8000) :
    s.memWrite a v = s.writeControl a.toNat v := by
  rw [State.memWrite, if_pos h]

/-! ## What a read depends on -/

/-- The storage an address selects depends on PC, inBios, the images and the MBC's registers only. -/
theorem State.locate_congr {s t : State} (hpc : t.regs.pc = s.regs.pc) (hb : t.ctl.inBios = s.ctl.inBios)
    (hc : t.cart = s.cart) (hm : t.mbc = s.mbc) (a : Word) : t.locate a = s.locate a := by
  unfold State.locate State.locateNat State.overlaid State.lowBank State.highBank State.ramUsable State.ramOffset
  rw [hpc, hb, hc, hm]

/-- At and above 0x4000 the storage an address selects does not depend on PC or the overlay. -/
theorem State.locate_of_ge {s t : State} (hc : t.cart = s.cart) (hm : t.mbc = s.mbc) {a : Word} (h : 0x4000 ≤ a.toNat) :
    t.locate a = s.locate a := by
  have h' : ¬ a.toNat < 0x4000 := by omega
  unfold State.locate State.locateNat State.highBank State.ramUsable State.ramOffset
  rw [if_neg h', if_neg h', hc, hm]

/-- Outside ROM and cartridge RAM the storage an address selects is fixed by the map alone. -/
theorem State.locate_fixed (s t : State) {a : Word} (h : 0x8000 ≤ a.toNat)
    (h' : a.toNat < 0xA000 ∨ 0xC000 ≤ a.toNat) : t.locate a = s.locate a := by
  have h1 : ¬ a.toNat < 0x4000 := by omega
  have h2 : ¬ a.toNat < 0x8000 := by omega
  unfold State.locate State.locateNat
  rw [if_neg h1, if_neg h1, if_neg h2, if_neg h2]
  rcases h' with h' | h'
  · rw [if_pos h', if_pos h']
  · have h3 : ¬ a.toNat < 0xA000 := by omega
    have h4 : ¬ a.toNat < 0xC000 := by omega
    rw [if_neg h3, if_neg h3, if_neg h4, if_neg h4]

/-- What a read gives depends on the parts of the state outside the general registers only. -/
theorem State.memRead_congr {s t : State} (hpc : t.regs.pc = s.regs.pc) (hb : t.ctl.inBios = s.ctl.inBios)
    (hq : t.irq = s.irq) (ht : t.timer = s.timer) (hp : t.ppu = s.ppu) (hm : t.mbc = s.mbc)
    (hj : t.joypSelect = s.joypSelect) (hmem : t.mem = s.mem) (hc : t.cart = s.cart) (hr : t.ramDraw = s.ramDraw)
    (hh : t.hostDraw = s.hostDraw) (a : Word) : t.memRead a = s.memRead a := by
  unfold State.memRead
  rw [State.locate_congr hpc hb hc hm a]
  unfold State.readTarget
  split
  · rw [hc]
  · rw [hc]
  · simp only [State.cell, hmem, hr]
  · simp only [State.readReg, hq, ht, hp, hj, hh]
  · rfl

/-- A state that differs in the CPU's registers and cycle count only stores nothing. -/
theorem storesNothing_of_cpu {s t : State} (h : KeepsDevices s t) (hb : t.ctl.inBios = s.ctl.inBios)
    (hmem : t.mem = s.mem) : StoresNothing s t := by
  refine ⟨h, fun pc a => ?_, fun key => ?_⟩
  · obtain ⟨hq, ht, hp, hm, hj, hc, hs, hr, hh⟩ := h
    exact State.memRead_congr (s := s.setPc pc) (t := t.setPc pc) rfl hb hq ht hp hm hj hmem hc hr hh a
  · obtain ⟨hq, ht, hp, hm, hj, hc, hs, hr, hh⟩ := h
    simp only [State.cell, hmem, hr]

/-! ## Read after write -/

@[simp] theorem State.cell_setCell_same (s : State) (key : Nat) (v : Byte) : (s.setCell key v).cell key = v := by
  simp [State.cell]

theorem State.cell_setCell_of_ne (s : State) {key q : Nat} (v : Byte) (h : q ≠ key) :
    (s.setCell key v).cell q = s.cell q := by
  simp only [State.cell, State.setCell_mem, Memory.read_write_of_ne unlistedCell s.mem v h, State.setCell_ramDraw]

/-- Writing a register leaves the reads of every other register alone. -/
theorem State.readReg_writeReg_of_ne (s : State) {r q : IoReg} (v : Byte) (h : q ≠ r) :
    (s.writeReg r v).readReg q = s.readReg q := by
  cases r <;> cases q <;> first | rfl | exact absurd rfl h

/-- Writing a register leaves the cells alone. -/
@[simp] theorem State.writeReg_cell (s : State) (r : IoReg) (v : Byte) (key : Nat) :
    (s.writeReg r v).cell key = s.cell key := by
  obtain ⟨_, _, _, _, h⟩ := s.writeReg_cases r v; rw [h]; rfl

/-- A write at or above 0x8000 keeps the MBC's registers. -/
theorem State.memWrite_mbc_of_ge (s : State) {a : Word} (v : Byte) (h : 0x8000 ≤ a.toNat) :
    (s.memWrite a v).mbc = s.mbc := by
  rw [s.memWrite_of_ge v h]
  unfold State.writeTarget
  split
  · rfl
  · rename_i r _
    obtain ⟨_, _, _, _, h⟩ := s.writeReg_cases r v; rw [h]
  all_goals rfl

/-- A write of a storage leaves the reads of every other storage alone. -/
theorem State.readTarget_writeTarget_of_ne (s : State) {t q : Target} (v : Byte) (h : q ≠ t) :
    (s.writeTarget t v).readTarget q = s.readTarget q := by
  cases t with
  | cell key =>
    cases q with
    | cell key' => exact s.cell_setCell_of_ne v (fun e => h (by rw [e]))
    | _ => rfl
  | reg r =>
    cases q with
    | reg r' => exact s.readReg_writeReg_of_ne v (fun e => h (by rw [e]))
    | cell key => exact s.writeReg_cell r v key
    | _ =>
      obtain ⟨_, _, _, _, h⟩ := s.writeReg_cases r v
      simp only [State.writeTarget, h]; rfl
  | _ => rfl

/-- Loading an address in a cell after storing to it gives the byte stored (20_memory.md R81, R83, R95, R104). -/
theorem State.memRead_memWrite_same (s : State) {a : Word} {key : Nat} (v : Byte) (h : 0x8000 ≤ a.toNat)
    (hl : s.locate a = .cell key) : (s.memWrite a v).memRead a = v := by
  have hm := s.memWrite_mbc_of_ge v h
  rw [State.memRead, State.locate_congr (by simp) (by simp) (by simp) hm a, hl, s.memWrite_of_ge v h, hl]
  exact s.cell_setCell_same key v

end Sys2Proof.Machine
end

