-- ==== Sys2Proof/Laws/Bytes.lean ====
section
/-! SUPPORT. The byte order's laws: joining and splitting a word. -/

namespace Sys2Proof

theorem joinBytes_toNat (hi lo : Byte) : (joinBytes hi lo).toNat = hi.toNat * 256 + lo.toNat := by
  have h : (joinBytes hi lo).toNat = hi.toNat <<< 8 ||| lo.toNat := BitVec.toNat_append hi lo
  rw [h, Nat.shiftLeft_eq, Nat.mul_comm, ← Nat.two_pow_add_eq_or_of_lt lo.isLt]

theorem lowByte_toNat (w : Word) : (lowByte w).toNat = w.toNat % 256 := by
  simp [lowByte]

theorem highByte_toNat (w : Word) : (highByte w).toNat = w.toNat / 256 := by
  have := w.isLt
  simp only [highByte, BitVec.toNat_setWidth, BitVec.toNat_ushiftRight, Nat.shiftRight_eq_div_pow]
  omega

/-- The low byte as a bit field, as a rule writes `v[7:0]`. -/
theorem lowByte_eq (w : Word) : lowByte w = w.extractLsb' 0 8 := by
  apply BitVec.eq_of_toNat_eq
  rw [lowByte_toNat, BitVec.extractLsb'_toNat]
  simp

/-- The high byte as a bit field, as a rule writes `v[15:8]`. -/
theorem highByte_eq (w : Word) : highByte w = w.extractLsb' 8 8 := by
  have := w.isLt
  apply BitVec.eq_of_toNat_eq
  rw [highByte_toNat, BitVec.extractLsb'_toNat, Nat.shiftRight_eq_div_pow]
  omega

end Sys2Proof
end

