-- ==== Sys2Proof/Laws/Encoding.lean ====
section
/-! SUPPORT. The bytes of an instruction from its shape's operand fields, said once, so that a proof about an encoding is
about one shape and not about its opcodes. -/

namespace Sys2Proof

/-- The bytes of a shape: the "Encoding" line of its rule (30_encoding.md R141 to R144, R147). -/
def Shape.bytes : Shape → List Byte
  | .nop => [0x00]
  | .halt => [0x76]
  | .stop n => [0x10, n]
  | .di => [0xF3]
  | .ei => [0xFB]
  | .illegal op => [op]
  | .ldRR dst src => [1#2 ++ dst.code ++ src.code]
  | .ldRN dst n => [0#2 ++ dst.code ++ 6#3, n]
  | .ldRAtHL dst => [1#2 ++ dst.code ++ 6#3]
  | .ldAtHLR src => [0b01110#5 ++ src.code]
  | .ldAtHLN n => [0x36, n]
  | .ldAAtPair .bc => [0x0A]
  | .ldAAtPair .de => [0x1A]
  | .ldAtPairA .bc => [0x02]
  | .ldAtPairA .de => [0x12]
  | .ldAAtNn nn => 0xFA :: wordBytes nn
  | .ldAtNnA nn => 0xEA :: wordBytes nn
  | .ldhAAtN n => [0xF0, n]
  | .ldhAtNA n => [0xE0, n]
  | .ldAAtC => [0xF2]
  | .ldAtCA => [0xE2]
  | .ldAtHliA => [0x22]
  | .ldAAtHli => [0x2A]
  | .ldAtHldA => [0x32]
  | .ldAAtHld => [0x3A]
  | .ldPairNn rr nn => (0#2 ++ rr.code ++ 1#4) :: wordBytes nn
  | .ldNnSp nn => 0x08 :: wordBytes nn
  | .ldSpHl => [0xF9]
  | .push qq => [3#2 ++ qq.code ++ 5#4]
  | .pop qq => [3#2 ++ qq.code ++ 1#4]
  | .ldHlSpE e => [0xF8, e]
  | .aluR o src => [2#2 ++ o.code ++ src.code]
  | .aluAtHL o => [2#2 ++ o.code ++ 6#3]
  | .aluN o n => [3#2 ++ o.code ++ 6#3, n]
  | .incR dst => [0#2 ++ dst.code ++ 4#3]
  | .incAtHL => [0x34]
  | .decR dst => [0#2 ++ dst.code ++ 5#3]
  | .decAtHL => [0x35]
  | .daa => [0x27]
  | .cpl => [0x2F]
  | .scf => [0x37]
  | .ccf => [0x3F]
  | .addHl rr => [0#2 ++ rr.code ++ 9#4]
  | .incPair rr => [0#2 ++ rr.code ++ 3#4]
  | .decPair rr => [0#2 ++ rr.code ++ 11#4]
  | .addSpE e => [0xE8, e]
  | .rotateA .rlc => [0x07]
  | .rotateA .rrc => [0x0F]
  | .rotateA .rl => [0x17]
  | .rotateA .rr => [0x1F]
  | .shiftR o z => [0xCB, 0#2 ++ o.code ++ z.code]
  | .shiftAtHL o => [0xCB, 0#2 ++ o.code ++ 6#3]
  | .bitR b z => [0xCB, 1#2 ++ fieldCode b ++ z.code]
  | .bitAtHL b => [0xCB, 1#2 ++ fieldCode b ++ 6#3]
  | .resR b z => [0xCB, 2#2 ++ fieldCode b ++ z.code]
  | .resAtHL b => [0xCB, 2#2 ++ fieldCode b ++ 6#3]
  | .setR b z => [0xCB, 3#2 ++ fieldCode b ++ z.code]
  | .setAtHL b => [0xCB, 3#2 ++ fieldCode b ++ 6#3]
  | .jp nn => 0xC3 :: wordBytes nn
  | .jpCc cc nn => (0b110#3 ++ cc.code ++ 0b010#3) :: wordBytes nn
  | .jpHl => [0xE9]
  | .jr e => [0x18, e]
  | .jrCc cc e => [0b001#3 ++ cc.code ++ 0#3, e]
  | .call nn => 0xCD :: wordBytes nn
  | .callCc cc nn => (0b110#3 ++ cc.code ++ 0b100#3) :: wordBytes nn
  | .rst k => [3#2 ++ fieldCode k ++ 7#3]
  | .ret => [0xC9]
  | .retCc cc => [0b110#3 ++ cc.code ++ 0#3]
  | .reti => [0xD9]

/-- Every instruction's bytes are its shape's. -/
theorem encode_eq_bytes (i : Instr) : encode i = i.shape.bytes := by
  cases i <;> rfl

/-- The same, for the shape at hand. -/
theorem encode_of_shape {i : Instr} {sh : Shape} (h : i.shape = sh) : encode i = sh.bytes := by
  rw [encode_eq_bytes, h]

end Sys2Proof
end

