-- ==== Sys2Proof/Laws/Exec.lean ====
section
/-! SUPPORT. What an instruction does is what its shape's operation does, with the operand fields of its opcode: said once,
so that a proof about a rule is about one shape and not about its opcodes. -/

namespace Sys2Proof.Machine

/-- The operation of a shape. -/
def Shape.run : Shape → State → Result
  | .nop, s => Machine.nop s
  | .halt, s => Machine.halt s
  | .stop n, s => Machine.stop n s
  | .di, s => Machine.di s
  | .ei, s => Machine.ei s
  | .illegal op, s => Machine.illegal op s
  | .ldRR dst src, s => Machine.ldRR dst src s
  | .ldRN dst n, s => Machine.ldRN dst n s
  | .ldRAtHL dst, s => Machine.ldRAtHL dst s
  | .ldAtHLR src, s => Machine.ldAtHLR src s
  | .ldAtHLN n, s => Machine.ldAtHLN n s
  | .ldAAtPair p, s => Machine.ldAAtPair p s
  | .ldAtPairA p, s => Machine.ldAtPairA p s
  | .ldAAtNn nn, s => Machine.ldAAtNn nn s
  | .ldAtNnA nn, s => Machine.ldAtNnA nn s
  | .ldhAAtN n, s => Machine.ldhAAtN n s
  | .ldhAtNA n, s => Machine.ldhAtNA n s
  | .ldAAtC, s => Machine.ldAAtC s
  | .ldAtCA, s => Machine.ldAtCA s
  | .ldAtHliA, s => Machine.ldAtHliA s
  | .ldAAtHli, s => Machine.ldAAtHli s
  | .ldAtHldA, s => Machine.ldAtHldA s
  | .ldAAtHld, s => Machine.ldAAtHld s
  | .ldPairNn rr nn, s => Machine.ldPairNn rr nn s
  | .ldNnSp nn, s => Machine.ldNnSp nn s
  | .ldSpHl, s => Machine.ldSpHl s
  | .push qq, s => Machine.push qq s
  | .pop qq, s => Machine.pop qq s
  | .ldHlSpE e, s => Machine.ldHlSpE e s
  | .aluR o src, s => Machine.aluR o src s
  | .aluAtHL o, s => Machine.aluAtHL o s
  | .aluN o n, s => Machine.aluN o n s
  | .incR dst, s => Machine.incR dst s
  | .incAtHL, s => Machine.incAtHL s
  | .decR dst, s => Machine.decR dst s
  | .decAtHL, s => Machine.decAtHL s
  | .daa, s => Machine.daa s
  | .cpl, s => Machine.cpl s
  | .scf, s => Machine.scf s
  | .ccf, s => Machine.ccf s
  | .addHl rr, s => Machine.addHl rr s
  | .incPair rr, s => Machine.incPair rr s
  | .decPair rr, s => Machine.decPair rr s
  | .addSpE e, s => Machine.addSpE e s
  | .rotateA o, s => Machine.rotateA o s
  | .shiftR o z, s => Machine.shiftR o z s
  | .shiftAtHL o, s => Machine.shiftAtHL o s
  | .bitR b z, s => Machine.bitR b z s
  | .bitAtHL b, s => Machine.bitAtHL b s
  | .resR b z, s => Machine.resR b z s
  | .resAtHL b, s => Machine.resAtHL b s
  | .setR b z, s => Machine.setR b z s
  | .setAtHL b, s => Machine.setAtHL b s
  | .jp nn, s => Machine.jp nn s
  | .jpCc cc nn, s => Machine.jpCc cc nn s
  | .jpHl, s => Machine.jpHl s
  | .jr e, s => Machine.jr e s
  | .jrCc cc e, s => Machine.jrCc cc e s
  | .call nn, s => Machine.call nn s
  | .callCc cc nn, s => Machine.callCc cc nn s
  | .rst t, s => Machine.rst t s
  | .ret, s => Machine.ret s
  | .retCc cc, s => Machine.retCc cc s
  | .reti, s => Machine.reti s

/-- Every instruction's meaning is its shape's operation. -/
theorem exec_eq_run (i : Instr) (s : State) : exec i s = Shape.run i.shape s := by
  cases i <;> rfl

/-- The same, for the shape at hand. -/
theorem exec_of_shape {i : Instr} {sh : Shape} (h : i.shape = sh) (s : State) : exec i s = Shape.run sh s := by
  rw [exec_eq_run, h]

/-- Every instruction answers a next state. -/
theorem exec_next (i : Instr) (s : State) : ∃ t, exec i s = .next t := by
  rw [exec_eq_run]
  cases i.shape with
  | jpCc cc nn | jrCc cc e | callCc cc nn | retCc cc =>
    simp only [Shape.run, jpCc, jrCc, callCc, retCc]
    split <;> exact ⟨_, rfl⟩
  | _ => exact ⟨_, rfl⟩

end Sys2Proof.Machine
end

