-- ==== Sys2Proof/Laws/Stores.lean ====
section
/-! SUPPORT. The frame of a store, said once: what a byte write, and two byte writes at neighbouring addresses, leave
unchanged. -/

namespace Sys2Proof.Machine

/-- A write does not depend on the CPU's registers. -/
theorem State.memWrite_setRegs (s : State) (g : Regs) (a : Word) (v : Byte) :
    (s.setRegs g).memWrite a v = (s.memWrite a v).setRegs g := by
  by_cases h : a.toNat < 0x8000
  · rw [State.memWrite_of_lt _ v h, State.memWrite_of_lt _ v h]
    unfold State.writeControl
    show (match s.cart.mbcType with | .mbc0 => _ | .mbc1 => _) = _
    cases s.cart.mbcType <;> rfl
  · have h : 0x8000 ≤ a.toNat := by omega
    rw [State.memWrite_of_ge _ v h, State.memWrite_of_ge _ v h,
      State.locate_of_ge (s := s) (t := s.setRegs g) rfl rfl (by omega)]
    unfold State.writeTarget
    cases s.locate a with
    | reg r => cases r <;> rfl
    | _ => rfl

/-- A write does not depend on PC. -/
theorem State.memWrite_setPc (s : State) (pc a : Word) (v : Byte) :
    (s.memWrite a v).setPc pc = (s.setPc pc).memWrite a v := by
  unfold State.setPc
  rw [State.memWrite_setRegs, State.memWrite_regs]

/-- A control write with no MBC changes nothing; with an MBC1 it changes the MBC's registers. -/
theorem State.memWrite_control (s : State) {a : Word} (v : Byte) (h : a.toNat < 0x8000) :
    (s.cart.mbcType = .mbc0 ∧ s.memWrite a v = s) ∨
      (s.cart.mbcType = .mbc1 ∧ s.memWrite a v = { s with mbc := s.mbc.control a.toNat v }) := by
  rw [s.memWrite_of_lt v h]
  unfold State.writeControl
  cases hm : s.cart.mbcType with
  | mbc0 => exact .inl ⟨rfl, rfl⟩
  | mbc1 => exact .inr ⟨rfl, rfl⟩

theorem not_touches_control {s : State} {a b : Word} (h : a.toNat < 0x8000) (hm : s.cart.mbcType = .mbc1)
    (hb : ¬ s.touches a b) : 0x8000 ≤ b.toNat ∧ (b.toNat < 0xA000 ∨ 0xC000 ≤ b.toNat) := by
  unfold State.touches at hb
  rw [if_pos h] at hb
  have hb : ¬ (b.toNat < 0x8000 ∨ (0xA000 ≤ b.toNat ∧ b.toNat < 0xC000)) := fun h' => hb ⟨hm, h'⟩
  omega

/-- What one byte write leaves unchanged. -/
theorem storesOnly_memWrite (s : State) (a : Word) (v : Byte) : StoresOnly s (s.memWrite a v) [a] := by
  by_cases h : a.toNat < 0x8000
  · have hcell : ∀ m : Mbc, ∀ key, State.cell { s with mbc := m } key = s.cell key := fun _ _ => rfl
    have h0 : ¬ 0x8000 ≤ a.toNat := by omega
    rcases s.memWrite_control v h with ⟨hm, hw⟩ | ⟨hm, hw⟩
    · rw [hw]
      exact ⟨fun _ _ _ => rfl, fun _ _ => rfl, fun _ => rfl, fun _ => rfl, rfl, rfl, rfl, rfl, rfl, rfl, rfl, rfl, rfl⟩
    · rw [hw]
      refine ⟨fun pc b hb => ?_, fun _ _ => rfl, fun _ => rfl, fun hge => absurd (hge a (by simp)) h0, rfl, rfl, rfl, rfl,
        rfl, rfl, rfl, rfl, rfl⟩
      have hb' := not_touches_control h hm (hb a (by simp))
      unfold State.memRead
      rw [State.locate_fixed (s.setPc pc) (State.setPc { s with mbc := s.mbc.control a.toNat v } pc) hb'.1 hb'.2]
      rfl
  · have h : 0x8000 ≤ a.toNat := by omega
    have hmbc := s.memWrite_mbc_of_ge v h
    refine ⟨fun pc b hb => ?_, fun key hk => ?_, fun hd => ?_, fun _ => hmbc, ?_⟩
    · have hb' : s.locate b ≠ s.locate a := by
        have := hb a (by simp)
        unfold State.touches at this
        rwa [if_neg (by omega)] at this
      rw [State.memWrite_setPc]
      unfold State.memRead
      rw [State.locate_congr (s := s.setPc pc) (t := (s.setPc pc).memWrite a v) (by simp) (by simp) (by simp)
          ((s.setPc pc).memWrite_mbc_of_ge v h),
        State.memWrite_of_ge _ v h]
      refine State.readTarget_writeTarget_of_ne _ v ?_
      have ha : (s.setPc pc).locate a = s.locate a :=
        State.locate_of_ge (s := s) (t := s.setPc pc) (a := a) rfl rfl (by omega)
      rw [ha]
      by_cases hb4 : 0x4000 ≤ b.toNat
      · rw [State.locate_of_ge (s := s) (t := s.setPc pc) rfl rfl hb4]
        exact hb'
      · unfold State.locate State.locateNat
        rw [if_pos (show b.toNat < 0x4000 by omega), if_neg (show ¬ a.toNat < 0x4000 by omega),
          if_neg (show ¬ a.toNat < 0x8000 by omega)]
        repeat' split
        all_goals intro hx; cases hx
    · have hk' := hk a (by simp)
      rw [s.memWrite_of_ge v h]
      unfold State.writeTarget
      split
      · rename_i key' e
        exact s.cell_setCell_of_ne v (fun he => hk' (by rw [e, he]))
      · exact s.writeReg_cell _ v key
      all_goals rfl
    · have hd' := hd a (by simp)
      rw [s.memWrite_of_ge v h]
      unfold State.writeTarget
      split
      · rfl
      · rename_i r e
        cases r with
        | div => exact absurd e hd'
        | _ => rfl
      all_goals rfl
    · rw [s.memWrite_of_ge v h]
      unfold State.writeTarget
      split
      · exact ⟨rfl, rfl, rfl, rfl, rfl, rfl, rfl, rfl, rfl⟩
      · rename_i r _
        cases r <;> exact ⟨rfl, rfl, rfl, rfl, rfl, rfl, rfl, rfl, rfl⟩
      all_goals exact ⟨rfl, rfl, rfl, rfl, rfl, rfl, rfl, rfl, rfl⟩

/-- Neighbouring addresses: with the first below 0x8000, the second is below it too or has a fixed storage. -/
theorem neighbour_fixed {a b : Word} (hab : b = a + 1 ∨ a = b + 1) (ha : a.toNat < 0x8000) (hb : ¬ b.toNat < 0x8000) :
    b.toNat < 0xA000 ∨ 0xC000 ≤ b.toNat := by
  rcases hab with h | h <;> subst h <;> simp only [BitVec.toNat_add] at * <;> simp at * <;> omega

/-- What two byte writes at neighbouring addresses leave unchanged. -/
theorem storesOnly_memWrite_two (s : State) {a b : Word} (v w : Byte) (hab : b = a + 1 ∨ a = b + 1) :
    StoresOnly s ((s.memWrite a v).memWrite b w) [a, b] := by
  obtain ⟨h1, h2, h3, h4, h5, h6, h7, h8, h9, h10, h11, h12, h13⟩ := storesOnly_memWrite s a v
  obtain ⟨k1, k2, k3, k4, k5, k6, k7, k8, k9, k10, k11, k12, k13⟩ := storesOnly_memWrite (s.memWrite a v) b w
  have hla : ∀ {c : Word}, 0x8000 ≤ a.toNat → (s.memWrite a v).locate c = s.locate c := fun ha =>
    State.locate_congr (by simp) (by simp) (by simp) (s.memWrite_mbc_of_ge v ha) _
  have hlb : (s.memWrite a v).locate b = s.locate b ∨ b.toNat < 0x8000 := by
    by_cases hb : b.toNat < 0x8000
    · exact .inr hb
    · left
      by_cases ha : a.toNat < 0x8000
      · exact State.locate_fixed _ _ (by omega) (neighbour_fixed hab ha hb)
      · exact hla (by omega)
  have hbNe : ∀ q, (∀ n, q ≠ Target.rom n) → (∀ n, q ≠ Target.bios n) → s.locate b ≠ q → (s.memWrite a v).locate b ≠ q := by
    intro q hr hbi hne
    rcases hlb with e | hb
    · rwa [e]
    · unfold State.locate State.locateNat
      by_cases hb4 : b.toNat < 0x4000
      · rw [if_pos hb4]
        split
        · exact fun e => hbi _ e.symm
        · exact fun e => hr _ e.symm
      · rw [if_neg hb4, if_pos hb]
        exact fun e => hr _ e.symm
  refine ⟨fun pc c hc => ?_, fun key hk => ?_, fun hd => ?_, fun hge => ?_, k5.trans h5, k6.trans h6, k7.trans h7,
    k8.trans h8, k9.trans h9, k10.trans h10, k11.trans h11, k12.trans h12, k13.trans h13⟩
  · have hca := hc a (by simp)
    have hcb := hc b (by simp)
    rw [k1 pc c (fun x hx => ?_), h1 pc c (fun x hx => ?_)]
    · simp only [List.mem_singleton] at hx; rwa [hx]
    · simp only [List.mem_singleton] at hx
      rw [hx]
      unfold State.touches at hcb ⊢
      by_cases hb : b.toNat < 0x8000
      · rw [if_pos hb] at hcb ⊢
        rwa [State.memWrite_cart]
      · rw [if_neg hb] at hcb ⊢
        by_cases ha : a.toNat < 0x8000
        · rcases s.memWrite_control v ha with ⟨hm, hw⟩ | ⟨hm, hw⟩
          · rwa [hw]
          · have hc' := not_touches_control ha hm hca
            rwa [State.locate_fixed s _ hc'.1 hc'.2, State.locate_fixed s _ (by omega) (neighbour_fixed hab ha hb)]
        · rwa [hla (by omega), hla (by omega)]
  · rw [k2 key (fun x hx => ?_), h2 key (fun x hx => ?_)]
    · simp only [List.mem_singleton] at hx; rw [hx]; exact hk a (by simp)
    · simp only [List.mem_singleton] at hx
      rw [hx]
      exact hbNe _ (by simp) (by simp) (hk b (by simp))
  · rw [k3 (fun x hx => ?_), h3 (fun x hx => ?_)]
    · simp only [List.mem_singleton] at hx; rw [hx]; exact hd a (by simp)
    · simp only [List.mem_singleton] at hx
      rw [hx]
      exact hbNe _ (by simp) (by simp) (hd b (by simp))
  · rw [k4 (fun x hx => ?_), h4 (fun x hx => ?_)]
    · simp only [List.mem_singleton] at hx; rw [hx]; exact hge a (by simp)
    · simp only [List.mem_singleton] at hx; rw [hx]; exact hge b (by simp)

/-- The CPU's registers and control state take no part in the frame of a store. -/
theorem StoresOnly.of_cpu {s t : State} {l : List Word} (h : StoresOnly s t l) (g : Regs) (c : Control)
    (hb : c.inBios = t.ctl.inBios) : StoresOnly s { t with regs := g, ctl := c } l := by
  obtain ⟨h1, h2, h3, h4, hrest⟩ := h
  refine ⟨fun pc b hb' => ?_, h2, h3, h4, hrest⟩
  rw [← h1 pc b hb']
  exact State.memRead_congr (s := t.setPc pc) (t := State.setPc { t with regs := g, ctl := c } pc) rfl hb rfl rfl rfl rfl
    rfl rfl rfl rfl rfl b

/-- What a push leaves unchanged: everything its two stack bytes do not touch (42_load16.md R233). -/
theorem storesOnly_push16 (s : State) (v : Word) :
    StoresOnly s (s.push16 v) [s.regs.sp - 2 + 1, s.regs.sp - 2] :=
  (storesOnly_memWrite_two s (highByte v) (lowByte v) (.inr rfl)).of_cpu _ _ rfl

@[simp] theorem State.push16_regs (s : State) (v : Word) :
    (s.push16 v).regs = { s.regs with sp := s.regs.sp - 2 } := by
  simp [State.push16]

@[simp] theorem State.push16_ctl (s : State) (v : Word) : (s.push16 v).ctl = s.ctl := by
  simp [State.push16]

end Sys2Proof.Machine
end

