-- ==== Sys2Proof/Laws/Frames.lean ====
section
/-! SUPPORT. The frame predicates of Safety.lean for the three kinds of state an instruction leads to: one that differs in
the CPU's registers and cycle count only, one that stores a byte, one that pushes a word. -/

namespace Sys2Proof.Machine

/-- The state with a register file and a cycle count put in place. -/
abbrev State.withRegs (s : State) (g : Regs) (cycles : Nat) : State :=
  { s with regs := g, ctl := { s.ctl with cycles := cycles } }

theorem storesNothing_regs (s : State) (g : Regs) (c : Control) (hb : c.inBios = s.ctl.inBios) :
    StoresNothing s { s with regs := g, ctl := c } :=
  storesNothing_of_cpu ⟨rfl, rfl, rfl, rfl, rfl, rfl, rfl, rfl, rfl⟩ hb rfl

theorem keepsControl_cycles (s : State) (g : Regs) (cycles : Nat) : KeepsControl s (s.withRegs g cycles) :=
  ⟨rfl, rfl, rfl, rfl, rfl, rfl, rfl⟩

/-- An instruction on 8-bit registers. -/
theorem changesOnly_regs (s : State) (g : Regs) (but : List R8) (cycles : Nat)
    (hr : ∀ r, r ∉ but → g.r8 r = s.regs.r8 r) (hsp : g.sp = s.regs.sp) (hpc : g.pc = s.regs.pc) :
    ChangesOnly s (s.withRegs g cycles) but cycles :=
  ⟨hr, hsp, hpc, keepsControl_cycles s g cycles, rfl, storesNothing_regs s g _ rfl⟩

/-- An instruction on one 8-bit register and the flags. -/
theorem changesOnly_setR8 (s : State) (r : R8) (v : Byte) (f : Flags) (cycles : Nat) :
    ChangesOnly s (s.withRegs { s.regs.setR8 r v with flags := f } cycles) [r] cycles :=
  changesOnly_regs s _ [r] cycles
    (fun q hq => (Regs.r8_setR8_of_ne s.regs v (by simpa using hq) : (s.regs.setR8 r v).r8 q = _))
    (Regs.setR8_sp s.regs r v) (Regs.setR8_pc s.regs r v)

/-- An instruction on the flags alone. -/
theorem changesOnly_setFlags (s : State) (f : Flags) (cycles : Nat) :
    ChangesOnly s (s.withRegs { s.regs with flags := f } cycles) [] cycles :=
  changesOnly_regs s _ [] cycles (fun q _ => by cases q <;> rfl) rfl rfl

/-- A load of an 8-bit register. -/
theorem loadsRegister_setR8 (s : State) (r : R8) (v : Byte) (cycles : Nat) :
    LoadsRegister s (s.withRegs (s.regs.setR8 r v) cycles) r v cycles := by
  refine ⟨Regs.r8_setR8_same s.regs r v, Regs.setR8_flags s.regs r v, ?_⟩
  exact changesOnly_regs s _ [r] cycles (fun q hq => Regs.r8_setR8_of_ne s.regs v (by simpa using hq))
    (Regs.setR8_sp s.regs r v) (Regs.setR8_pc s.regs r v)

/-- An instruction on one 16-bit pair and the flags. -/
theorem setsPair_regs (s : State) (rr : Pair) (v : Word) (f : Flags) (cycles : Nat) :
    SetsPair s (s.withRegs { s.regs.setPair rr v with flags := f } cycles) rr v cycles := by
  refine ⟨?_, ?_, ?_, Regs.setPair_pc s.regs rr v, keepsControl_cycles s _ cycles, rfl, storesNothing_regs s _ _ rfl⟩
  · have h := Regs.pair_setPair s.regs rr v
    cases rr <;> exact h
  · intro q hq
    cases rr <;> cases q <;> first | rfl | exact absurd hq (by decide)
  · intro h
    cases rr <;> first | rfl | exact absurd rfl h

/-- An instruction that stores one byte. -/
theorem storesByte_memWrite (s : State) (a : Word) (v : Byte) (g : Regs) (cycles : Nat) :
    StoresByte s { s.memWrite a v with regs := g, ctl := { s.ctl with cycles := cycles } } a v g cycles := by
  refine ⟨rfl, (storesOnly_memWrite s a v).of_cpu g _ (by simp), fun key hk => ?_⟩
  show (s.memWrite a v).cell key = v
  have h : 0x8000 ≤ a.toNat := by
    by_contra h
    have h8 : a.toNat < 0x8000 := by omega
    unfold State.locate State.locateNat at hk
    by_cases h4 : a.toNat < 0x4000
    · rw [if_pos h4] at hk
      split at hk <;> cases hk
    · rw [if_neg h4, if_pos h8] at hk
      cases hk
  rw [s.memWrite_of_ge v h, hk]
  exact s.cell_setCell_same key v

theorem word_sub_two_add_one (w : Word) : w - 2 + 1 = w - 1 := by
  rw [BitVec.sub_add_comm]
  apply BitVec.eq_of_toNat_eq
  have := w.isLt
  simp only [BitVec.toNat_sub, BitVec.toNat_add]
  simp
  omega

/-- An instruction that pushes a word and goes to `target`. -/
theorem pushes_push16 (s : State) (v target : Word) (cycles : Nat) :
    Pushes s (((s.push16 v).setPc target).took cycles) v target cycles := by
  refine ⟨?_, ?_⟩
  · simp only [State.push16, word_sub_two_add_one]
    simp [State.setPc, State.setSp, State.setRegs, State.took]
  · have h := storesOnly_push16 s v
    rw [word_sub_two_add_one] at h
    exact h.of_cpu _ _ rfl

end Sys2Proof.Machine
end

