-- ==== Sys2Proof/Laws/ExecCases.lean ====
section
/-! SUPPORT. What an instruction can do to the machine, said once (60_exceptions.md R410 line 4): nothing outside the CPU, or
one byte store, or two; or one of the six effects on the control state. Every invariant of a step is derived from it. -/

namespace Sys2Proof.Machine

/-- The cycle counts an instruction can take (70_reset_and_hazards.md R521, R522). -/
abbrev instrCycles (n : Nat) : Prop := n % 4 = 0 ∧ 4 ≤ n ∧ n ≤ 24

/-- The instructions that change the control state, and how. -/
inductive ControlEffect (i : Instr) (s : State) : Control → Prop where
  | halt (h : i.shape = .halt) : ControlEffect i s { s.ctl with halted := true, cycles := 4 }
  | stop (n : Byte) (h : i.shape = .stop n) : ControlEffect i s { s.ctl with stopped := true, cycles := 4 }
  | di (h : i.shape = .di) : ControlEffect i s { s.ctl with ime := false, eiDelay := 0, cycles := 4 }
  | ei (h : i.shape = .ei) (h0 : s.ctl.eiDelay = 0) : ControlEffect i s { s.ctl with eiDelay := 2, cycles := 4 }
  | reti (h : i.shape = .reti) : ControlEffect i s { s.ctl with ime := true, eiDelay := 0, cycles := 16 }
  | illegal (op : Byte) (h : i.shape = .illegal op) :
    ControlEffect i s { s.ctl with fault := some { op := op, addr := s.regs.pc - 1 }, cycles := 0 }

/-- What an instruction leads to. -/
inductive ExecEffect (i : Instr) (s : State) : State → Prop where
  | registers (g : Regs) (n : Nat) (hn : instrCycles n) :
    ExecEffect i s { s with regs := g, ctl := { s.ctl with cycles := n } }
  | store (a : Word) (v : Byte) (g : Regs) (n : Nat) (hn : instrCycles n) :
    ExecEffect i s { s.memWrite a v with regs := g, ctl := { s.ctl with cycles := n } }
  | storeTwo (a b : Word) (v w : Byte) (g : Regs) (n : Nat) (hn : instrCycles n) :
    ExecEffect i s { (s.memWrite a v).memWrite b w with regs := g, ctl := { s.ctl with cycles := n } }
  | control (g : Regs) (c : Control) (h : ControlEffect i s c) : ExecEffect i s { s with regs := g, ctl := c }

theorem ExecEffect.ofRegisters {i : Instr} {s : State} (u : State) {n : Nat} (hn : instrCycles n)
    (hu : u = { s with regs := u.regs }) : ExecEffect i s (u.took n) := by
  rw [hu]
  exact .registers u.regs n hn

theorem ExecEffect.ofStore {i : Instr} {s : State} (u : State) (a : Word) (v : Byte) {n : Nat} (hn : instrCycles n)
    (hu : u = { s.memWrite a v with regs := u.regs }) : ExecEffect i s (u.took n) := by
  rw [hu]
  have h := ExecEffect.store (i := i) (s := s) a v u.regs n hn
  have hc := State.memWrite_ctl s a v
  unfold State.took
  rw [← hc] at h
  exact h

theorem ExecEffect.ofPush {i : Instr} {s : State} (v target : Word) {n : Nat} (hn : instrCycles n) :
    ExecEffect i s (((s.push16 v).setPc target).took n) := by
  rw [(pushes_push16 s v target n).1]
  exact .storeTwo _ _ _ _ _ n hn

/-- The inversion of `exec`. -/
theorem exec_effect {i : Instr} {s t : State} (h : exec i s = .next t) : ExecEffect i s t := by
  have c4 : instrCycles 4 := by decide
  have c8 : instrCycles 8 := by decide
  have c12 : instrCycles 12 := by decide
  have c16 : instrCycles 16 := by decide
  have c20 : instrCycles 20 := by decide
  have c24 : instrCycles 24 := by decide
  rw [exec_eq_run] at h
  generalize hs : i.shape = sh at h
  have inj : ∀ {a b : State}, (Host.Outcome.next a : Result) = .next b → a = b := by
    intro a b hab; injection hab
  cases sh
  case halt => exact inj h ▸ .control s.regs _ (.halt hs)
  case stop n => exact inj h ▸ .control s.regs _ (.stop n hs)
  case di => exact inj h ▸ .control s.regs _ (.di hs)
  case ei =>
    simp only [Shape.run, ei] at h
    split at h
    · rename_i h0
      exact inj h ▸ .control s.regs _ (.ei hs h0)
    · exact inj h ▸ .registers s.regs 4 c4
  case reti => exact inj h ▸ .control _ _ (.reti hs)
  case illegal op => exact inj h ▸ .control s.regs _ (.illegal op hs)
  case ldAtHLR src | ldAtHLN n | ldAtPairA p | ldAtNnA nn | ldhAtNA n | ldAtCA | resAtHL b | setAtHL b =>
    exact inj h ▸ .ofStore (s.memWrite _ _) _ _ (by first | exact c8 | exact c12 | exact c16) rfl
  case ldAtHliA | ldAtHldA => exact inj h ▸ .ofStore (State.setHl (s.memWrite _ _) _) _ _ c8 rfl
  case incAtHL | decAtHL | shiftAtHL o =>
    exact inj h ▸ .ofStore (State.setFlags (s.memWrite _ _) _) _ _ (by first | exact c12 | exact c16) rfl
  case ldNnSp nn =>
    rw [← inj h]
    have e := ExecEffect.storeTwo (i := i) (s := s) nn (nn + 1) (lowByte s.regs.sp) (highByte s.regs.sp) s.regs 20 c20
    have hu : ((s.memWrite nn (lowByte s.regs.sp)).memWrite (nn + 1) (highByte s.regs.sp)).took 20 =
        { (s.memWrite nn (lowByte s.regs.sp)).memWrite (nn + 1) (highByte s.regs.sp) with
          regs := s.regs, ctl := { s.ctl with cycles := 20 } } := by
      unfold State.took
      simp
    exact hu ▸ e
  case push qq =>
    rw [← inj h]
    have e := ExecEffect.ofPush (i := i) (s := s) (s.regs.stackPair qq) s.regs.pc c16
    have hr : (s.push16 (s.regs.stackPair qq)).setPc s.regs.pc = s.push16 (s.regs.stackPair qq) := by
      simp only [State.setPc, State.setRegs, State.push16_regs]
      exact congrArg (fun g => ({ s.push16 (s.regs.stackPair qq) with regs := g } : State)) (State.push16_regs s _).symm
    rw [hr] at e
    exact e
  case call nn => exact inj h ▸ .ofPush _ _ c24
  case rst k => exact inj h ▸ .ofPush _ _ c16
  case callCc cc nn =>
    simp only [Shape.run, callCc] at h
    split at h
    · exact inj h ▸ .ofPush _ _ c24
    · exact inj h ▸ .registers s.regs 12 c12
  case jpCc cc nn | jrCc cc e | retCc cc =>
    simp only [Shape.run, jpCc, jrCc, retCc] at h
    split at h
    · exact inj h ▸ .registers _ _ (by first | exact c16 | exact c12 | exact c20)
    · exact inj h ▸ .registers s.regs _ (by first | exact c12 | exact c8)
  all_goals
    exact inj h ▸ .registers _ _ (by first | exact c4 | exact c8 | exact c12 | exact c16)

end Sys2Proof.Machine
end

