-- ==== Sys2Proof/Laws/Locate.lean ====
section
/-! SUPPORT. Which storage an address selects, region by region (20_memory.md R70), and what a write does to the reads of
other storage. -/

namespace Sys2Proof.Machine

/-- Outside the listed addresses the I/O window has plain cells only. -/
theorem ioReg?_eq_none {n : Nat}
    (h : n ∉ ([0xFF00, 0xFF04, 0xFF05, 0xFF06, 0xFF07, 0xFF0F, 0xFF40, 0xFF41, 0xFF42, 0xFF43, 0xFF44, 0xFF45, 0xFF47,
      0xFF48, 0xFF49, 0xFF4A, 0xFF4B] : List Nat)) : ioReg? n = none := by
  simp only [List.mem_cons, not_or, List.not_mem_nil] at h
  unfold ioReg?
  split <;> first | rfl | omega

/-- Two addresses of the I/O window do not name the same register. -/
theorem ioReg?_injective {m n : Nat} {r : IoReg} (hm : ioReg? m = some r) (hn : ioReg? n = some r) : m = n := by
  unfold ioReg? at hm hn
  split at hm <;>
    first
    | (injection hm with hm; subst hm; split at hn <;> first | rfl | cases hn)
    | cases hm

/-- The I/O window below IE: a register at its own address, a plain cell everywhere else. -/
theorem State.locateNat_window (s : State) {n : Nat} (h : 0xFF00 ≤ n) (h1 : n ≠ 0xFFFF) :
    s.locateNat n = (match ioReg? n with | some r => .reg r | none => .cell n) := by
  unfold State.locateNat
  split_ifs <;> first | omega | rfl

/-- Below the I/O window: no register, and a cell is its address's home or cartridge RAM. -/
theorem State.locateNat_below (s : State) {n : Nat} (h : n < 0xFF00) :
    (∀ r, s.locateNat n ≠ .reg r) ∧
      ∀ k, s.locateNat n = .cell k → k = echoHome n ∨ cartRamBase ≤ k := by
  unfold State.locateNat echoHome
  constructor
  · intro r
    split_ifs <;> first | omega | exact Target.noConfusion
  · intro k
    split_ifs <;> simp only [Target.cell.injEq, false_implies] <;> omega

/-- A storage address selects the cell of its home address. -/
theorem State.locate_storage (s : State) {a : Word} (h : IsStorage a.toNat) : s.locate a = .cell (echoHome a.toNat) := by
  unfold State.locate
  have hl := a.isLt
  generalize a.toNat = n at h hl
  by_cases hw : n < 0xFF00
  · have hr : (0x8000 ≤ n ∧ n < 0xA000) ∨ (0xC000 ≤ n ∧ n < 0xFEA0) := by unfold IsStorage at h; omega
    unfold State.locateNat echoHome
    split_ifs <;> first | omega | rfl
  · have hn : ioReg? n = none := by
      rcases h with h | h | h | h
      · omega
      · omega
      · exact ioReg?_eq_none (by simp; omega)
      · exact ioReg?_eq_none h.2.2
    have h1 : n ≠ 0xFFFF := by unfold IsStorage at h; omega
    rw [s.locateNat_window (by omega) h1, hn]
    unfold echoHome
    rw [if_neg (by omega)]

/-- A cell is its address's home, or cartridge RAM. -/
theorem State.cell_of_locate {s : State} {b : Word} {k : Nat} (h : s.locate b = .cell k) :
    k = echoHome b.toNat ∨ cartRamBase ≤ k := by
  unfold State.locate at h
  generalize b.toNat = n at h
  by_cases hw : n < 0xFF00
  · exact (s.locateNat_below hw).2 k h
  · by_cases h1 : n = 0xFFFF
    · subst h1; cases h
    · rw [s.locateNat_window (by omega) h1] at h
      left
      unfold echoHome
      rw [if_neg (by omega)]
      cases hr : ioReg? n <;> rw [hr] at h <;> cases h
      rfl

/-- A register's address of the I/O window selects that register. -/
theorem State.locate_register (s : State) {a : Word} {r : IoReg} (h : 0xFF00 ≤ a.toNat) (h1 : a ≠ 0xFFFF)
    (hr : ioReg? a.toNat = some r) : s.locate a = .reg r := by
  unfold State.locate
  rw [s.locateNat_window h (fun e => h1 (BitVec.eq_of_toNat_eq e)), hr]

/-- A register is selected by its own address only. -/
theorem State.register_of_locate {s : State} {b : Word} {r : IoReg} (h : s.locate b = .reg r) :
    (b = 0xFFFF ∧ r = .ie) ∨ ioReg? b.toNat = some r := by
  unfold State.locate at h
  by_cases hw : b.toNat < 0xFF00
  · exact absurd h ((s.locateNat_below hw).1 r)
  · by_cases h1 : b.toNat = 0xFFFF
    · rw [h1] at h
      injection h with h
      exact .inl ⟨BitVec.eq_of_toNat_eq h1, h.symm⟩
    · rw [s.locateNat_window (by omega) h1] at h
      right
      cases hr : ioReg? b.toNat <;> rw [hr] at h <;> cases h
      rfl

/-- A write at or above 0x8000 moves no address to other storage. -/
theorem State.locate_memWrite (s : State) {a : Word} (b : Word) (v : Byte) (h : 0x8000 ≤ a.toNat) :
    (s.memWrite a v).locate b = s.locate b :=
  State.locate_congr (by simp) (by simp) (by simp) (s.memWrite_mbc_of_ge v h) b

/-- A write leaves the reads of every other storage alone. -/
theorem State.memRead_memWrite_of_ne (s : State) {a b : Word} (v : Byte) (h : 0x8000 ≤ a.toNat)
    (hne : s.locate b ≠ s.locate a) : (s.memWrite a v).memRead b = s.memRead b := by
  rw [State.memRead, s.locate_memWrite b v h, s.memWrite_of_ge v h, State.readTarget_writeTarget_of_ne s v hne]
  rfl

/-- The header's RAM size as a table (20_memory.md R85). -/
theorem Cartridge.ramSize_eq (c : Cartridge) :
    ([0, 0x800, 0x2000, 0x8000, 0x20000, 0x10000] : List Nat).getD (c.headerByte 0x149).toNat 0 = c.ramSize := by
  unfold Cartridge.ramSize
  generalize (c.headerByte 0x149).toNat = k
  match k with
  | 0 | 1 | 2 | 3 | 4 | 5 => rfl
  | k + 6 => rfl

/-- The cells of an image's byte sequence read as its bytes. -/
theorem Image.read_cellsFrom (bytes : List Byte) (i k : Nat) :
    Memory.read Image.unlisted (Image.cellsFrom bytes i) k = some (if i ≤ k then (bytes[k - i]?).getD 0 else 0) := by
  induction bytes generalizing i with
  | nil => simp [Image.cellsFrom, Memory.read, Memory.lookup, Image.unlisted]
  | cons b rest ih =>
    unfold Image.cellsFrom
    have hrest : i + 1 ≤ k → (b :: rest)[k - i]? = rest[k - (i + 1)]? := by
      intro h; rw [show k - i = (k - (i + 1)) + 1 by omega]; rfl
    split
    · rename_i hb
      rw [ih]
      by_cases h : i + 1 ≤ k
      · rw [if_pos h, if_pos (by omega), hrest h]
      · rw [if_neg h]
        by_cases h2 : i ≤ k
        · rw [if_pos h2, show k - i = 0 by omega]; simp [hb]
        · rw [if_neg h2]
    · rename_i hb
      unfold Memory.read Memory.lookup
      by_cases he : i = k
      · rw [if_pos he, if_pos (by omega), show k - i = 0 by omega]; rfl
      · rw [if_neg he]
        have := ih (i + 1)
        unfold Memory.read at this
        rw [this]
        by_cases h : i + 1 ≤ k
        · rw [if_pos h, if_pos (by omega), hrest h]
        · rw [if_neg h, if_neg (by omega)]

end Sys2Proof.Machine
end

