-- ==== Sys2Proof/Laws/Steps.lean ====
section
/-! SUPPORT. What a step can do, said once: its shape (60_exceptions.md R410), the fetch, the interrupt entry and the tail
after an instruction. -/

namespace Sys2Proof.Machine

/-- A fetch moves PC alone, and gives what the bytes at PC decode to. -/
theorem fetchInstr_cases (b : State) : ∃ i pc rest, b.fetchInstr = (i, b.setPc pc) ∧
    decode [b.codeByte b.regs.pc, b.codeByte (b.regs.pc + 1), b.codeByte (b.regs.pc + 2)] = .ok (i, rest) := by
  have h0 : b.codeByte b.regs.pc = b.memRead b.regs.pc := rfl
  have h12 : b.regs.pc + 1 + 1 = b.regs.pc + 2 := by bv_omega
  rw [← h12]
  unfold State.fetchInstr
  simp only [decode, State.fetch16, State.fetch8]
  rw [← h0]
  cases opcodeForm (b.codeByte b.regs.pc) with
  | op i => exact ⟨i, b.regs.pc + 1, _, rfl, rfl⟩
  | byte f => exact ⟨f (b.codeByte (b.regs.pc + 1)), b.regs.pc + 1 + 1, _, rfl, rfl⟩
  | word f =>
    exact ⟨f (joinBytes (b.codeByte (b.regs.pc + 1 + 1)) (b.codeByte (b.regs.pc + 1))), b.regs.pc + 1 + 1 + 1, [], rfl, rfl⟩
  | cb => exact ⟨cbInstr (b.codeByte (b.regs.pc + 1)), b.regs.pc + 1 + 1, _, rfl, rfl⟩

/-- Line 2 of a step clears inBios or leaves the state as it is. -/
theorem leaveBios_cases (s : State) : ∃ b, s.leaveBios = { s with ctl := { s.ctl with inBios := b } } ∧
    (b = true → s.ctl.inBios = true ∧ s.regs.pc ≠ 0x0100) := by
  unfold State.leaveBios
  split
  · exact ⟨false, rfl, by simp⟩
  · rename_i h
    refine ⟨s.ctl.inBios, rfl, fun hb => ⟨hb, fun hp => h ?_⟩⟩
    rw [hb, hp]; rfl

/-- The state in which a fetched instruction executes: PC past it, awake, the overlay as line 2 leaves it, and the next
joypad draw (log 3); nothing else differs. -/
theorem fetched_eq (s : State) (i : Instr) : ∃ b, (b = true → s.ctl.inBios = true ∧ s.regs.pc ≠ 0x0100) ∧
    s.fetched i =
      { s with
        regs := { s.regs with pc := s.regs.pc + BitVec.ofNat 16 (encode i).length }
        ctl := { s.ctl with inBios := b, halted := false }
        hostDraw := s.hostDraw + 1 } := by
  obtain ⟨b, e, hb⟩ := leaveBios_cases s
  refine ⟨b, hb, ?_⟩
  unfold State.fetched
  rw [e]
  rfl

/-- A resume undoes a pause of a machine that was neither stopped nor paused (60_exceptions.md R471; log 8). -/
theorem hostResume_hostPause {s : State} (hs : s.ctl.stopped = false) (hp : s.ctl.pausedHalted = false) :
    s.hostPause.hostResume = s := by
  rcases s with ⟨_, ⟨_, _, _, _, _, _, _, _⟩, _, _, _, _, _, _, _, _, _, _⟩
  dsimp only at hs hp
  subst hs hp
  rfl

/-- What an instruction leaves unchanged, and what it does to the control state. -/
theorem exec_control {i : Instr} {s t : State} (h : exec i s = .next t) :
    t.cart = s.cart ∧ t.ramDraw = s.ramDraw ∧ t.sink = s.sink ∧ t.hostDraw = s.hostDraw ∧
      ((∃ n, instrCycles n ∧ t.ctl = { s.ctl with cycles := n }) ∨ ControlEffect i s t.ctl) := by
  cases exec_effect h with
  | registers g n hn => exact ⟨rfl, rfl, rfl, rfl, .inl ⟨n, hn, rfl⟩⟩
  | store a v g n hn => exact ⟨by simp, by simp, by simp, by simp, .inl ⟨n, hn, rfl⟩⟩
  | storeTwo a b v w g n hn => exact ⟨by simp, by simp, by simp, by simp, .inl ⟨n, hn, rfl⟩⟩
  | control g c hc => exact ⟨rfl, rfl, rfl, rfl, .inr hc⟩

/-- The four shapes of a step that answers a next state: stopped, a halted grant, an instruction. -/
theorem step_cases {s t : State} (h : step s = .next t) : s.ctl.fault = none ∧
    ((s.ctl.stopped = true ∧ t = s.took 0) ∨
      (s.ctl.stopped = false ∧ s.waits = true ∧ t = (s.leaveBios.took 4).finishStep) ∨
      (s.ctl.stopped = false ∧ s.waits = false ∧ ∃ i pc u,
        s.FetchesInstr i ∧ exec i (s.leaveBios.wake.setPc pc).nextSnapshot = .next u ∧ t = u.endInstruction)) := by
  unfold step at h
  cases hf : s.ctl.fault with
  | some r => rw [hf] at h; cases h
  | none =>
    rw [hf] at h
    refine ⟨rfl, ?_⟩
    dsimp only at h
    split at h
    · rename_i hs
      injection h with h
      exact .inl ⟨hs, h.symm⟩
    · rename_i hs
      have hs : s.ctl.stopped = false := by simpa using hs
      obtain ⟨b, e, hb⟩ := leaveBios_cases s
      have hw : s.leaveBios.waits = s.waits := by rw [e]; rfl
      rw [hw] at h
      split at h
      · rename_i hw
        injection h with h
        exact .inr (.inl ⟨hs, hw, h.symm⟩)
      · rename_i hw
        have hw : s.waits = false := by simpa using hw
        obtain ⟨i, pc, rest, hfe, hd⟩ := fetchInstr_cases s.leaveBios.wake
        have hpc : s.leaveBios.wake.regs.pc = s.regs.pc := by rw [e]; rfl
        rw [hpc] at hd
        unfold runInstruction at h
        rw [hfe] at h
        dsimp only at h
        obtain ⟨u, hu⟩ := exec_next i (s.leaveBios.wake.setPc pc).nextSnapshot
        rw [hu] at h
        injection h with h
        exact .inr (.inr ⟨hs, hw, i, pc, u, ⟨⟨hf, hs, hw⟩, rest, hd⟩, hu, h.symm⟩)

/-- The CPU's control state takes no part in a write. -/
theorem State.memWrite_setCtl (s : State) (a : Word) (v : Byte) (c : Control) :
    ({ s with ctl := c } : State).memWrite a v = { s.memWrite a v with ctl := c } := by
  by_cases h : a.toNat < 0x8000
  · rw [State.memWrite_of_lt _ v h, State.memWrite_of_lt _ v h]
    unfold State.writeControl
    show (match s.cart.mbcType with | .mbc0 => _ | .mbc1 => _) = _
    cases s.cart.mbcType <;> rfl
  · have h : 0x8000 ≤ a.toNat := by omega
    rw [State.memWrite_of_ge _ v h, State.memWrite_of_ge _ v h,
      State.locate_of_ge (s := s) (t := { s with ctl := c }) rfl rfl (by omega)]
    unfold State.writeTarget
    cases s.locate a with
    | reg r => cases r <;> rfl
    | _ => rfl

/-- Taking an interrupt: two writes, SP, PC, IME, Halted and the source's IF bit (60_exceptions.md R423). -/
theorem takeInterrupt_eq (s : State) (i : Source) : s.takeInterrupt i =
    { ((({ s with irq := { s.irq with iflag := s.irq.iflag &&& ~~~i.mask } } : State).memWrite (s.regs.sp - 2 + 1)
        (highByte s.regs.pc)).memWrite (s.regs.sp - 2) (lowByte s.regs.pc)) with
      regs := { s.regs with sp := s.regs.sp - 2, pc := i.vector }
      ctl := { s.ctl with ime := false, halted := false } } := by
  unfold State.takeInterrupt State.push16
  dsimp only
  have e := State.memWrite_setCtl ({ s with irq := { s.irq with iflag := s.irq.iflag &&& ~~~i.mask } })
    (s.regs.sp - 2 + 1) (highByte s.regs.pc) { s.ctl with ime := false }
  have e' := State.memWrite_setCtl ((({ s with irq := { s.irq with iflag := s.irq.iflag &&& ~~~i.mask } } : State).memWrite
    (s.regs.sp - 2 + 1) (highByte s.regs.pc))) (s.regs.sp - 2) (lowByte s.regs.pc) { s.ctl with ime := false }
  simp only [State.setIme] at e e' ⊢
  rw [e, e']
  simp [State.setSp, State.setPc, State.setRegs]

/-- The tail of a step: the images stay, the sink grows, the control state stays or an interrupt was entered. -/
theorem finishStep_cases (s : State) :
    (s.finishStep.cart = s.cart ∧ s.finishStep.ramDraw = s.ramDraw ∧ ∃ calls, s.finishStep.sink = s.sink ++ calls) ∧
      (s.finishStep.ctl = s.ctl ∨ (s.ctl.ime = true ∧
        s.finishStep.ctl = { s.ctl with ime := false, halted := false, cycles := s.ctl.cycles + 20 })) := by
  unfold State.finishStep State.advance
  obtain ⟨t, p, f, calls, e⟩ := advance_frame s s.ctl.cycles
  have hu : ∀ u, u = (s.advanceTimer s.ctl.cycles).advancePpu s.ctl.cycles →
      u.ctl = s.ctl ∧ u.cart = s.cart ∧ u.ramDraw = s.ramDraw ∧ u.sink = s.sink ++ calls := by
    intro u hu; rw [hu, e]; exact ⟨rfl, rfl, rfl, rfl⟩
  generalize (s.advanceTimer s.ctl.cycles).advancePpu s.ctl.cycles = u at hu
  obtain ⟨h1, h2, h3, h4⟩ := hu u rfl
  unfold State.serveInterrupt
  split
  · rename_i hi
    split
    · rename_i i _
      unfold State.advance
      obtain ⟨t2, p2, f2, calls2, e2⟩ := advance_frame ((u.takeInterrupt i).took (u.ctl.cycles + entryCycles)) entryCycles
      rw [e2, takeInterrupt_eq]
      refine ⟨⟨?_, ?_, calls ++ calls2, ?_⟩, .inr ⟨by rw [← h1]; exact hi, ?_⟩⟩
      · show State.cart (State.memWrite _ _ _) = _
        simp [h2]
      · show State.ramDraw (State.memWrite _ _ _) = _
        simp [h3]
      · show State.sink (State.memWrite _ _ _) ++ calls2 = _
        simp [h4]
      · show ({ u.ctl with ime := false, halted := false, cycles := u.ctl.cycles + 20 } : Control) = _
        rw [h1]
    · exact ⟨⟨h2, h3, _, h4⟩, .inl h1⟩
  · exact ⟨⟨h2, h3, _, h4⟩, .inl h1⟩

/-- Line 5 of a step: the EI delay, and the number of the next draw of the joypad lines (60_exceptions.md R414; log 3). -/
theorem eiUpdate_cases (u : State) : ∃ c, u.eiUpdate.nextSnapshot = { u with ctl := c, hostDraw := u.hostDraw + 1 } ∧
    c.cycles = u.ctl.cycles ∧ c.fault = u.ctl.fault ∧ c.halted = u.ctl.halted ∧ c.stopped = u.ctl.stopped ∧
    c.inBios = u.ctl.inBios ∧ c.pausedHalted = u.ctl.pausedHalted ∧ c.eiDelay ≠ 2 ∧ (c.ime = true → u.ctl.ime = true ∨ u.ctl.eiDelay = 1) := by
  unfold State.nextSnapshot State.eiUpdate
  split
  · rename_i h; exact ⟨u.ctl, rfl, rfl, rfl, rfl, rfl, rfl, rfl, by rw [h]; decide, .inl⟩
  · rename_i h; exact ⟨_, rfl, rfl, rfl, rfl, rfl, rfl, rfl, by dsimp only; decide, fun _ => .inr h⟩
  · exact ⟨_, rfl, rfl, rfl, rfl, rfl, rfl, rfl, by dsimp only; decide, .inl⟩

/-- What a write keeps of the invariant: the canonical form, a ROM bank that is not 0, the timer's ranges, the PPU's
clock and line (log 10). -/
theorem memWrite_keeps (s : State) (a : Word) (v : Byte) :
    (Memory.wf unlistedCell s.mem = true → Memory.wf unlistedCell (s.memWrite a v).mem = true) ∧
      (s.mbc.romBank ≠ 0 → (s.memWrite a v).mbc.romBank ≠ 0) ∧
      (s.timer.divAcc < 256 → (s.memWrite a v).timer.divAcc < 256) ∧ (s.memWrite a v).timer.timaAcc = s.timer.timaAcc ∧
      (s.ppu.ok = true → (s.memWrite a v).ppu.ok = true) := by
  by_cases h : a.toNat < 0x8000
  · rcases s.memWrite_control v h with ⟨_, e⟩ | ⟨_, e⟩ <;> rw [e]
    · exact ⟨id, id, id, rfl, id⟩
    · refine ⟨id, ?_, id, rfl, id⟩
      show _ → (s.mbc.control a.toNat v).romBank ≠ 0
      intro hr
      unfold Mbc.control
      split
      · exact hr
      · split
        · dsimp only; split
          · decide
          · assumption
        · split <;> exact hr
  · rw [s.memWrite_of_ge v (by omega)]
    unfold State.writeTarget
    split
    · exact ⟨fun h => Memory.write_wf _ _ _ _ h, id, id, rfl, id⟩
    · rename_i r _
      cases r
      case div => exact ⟨id, id, fun _ => by show 0 < 256; decide, rfl, id⟩
      case ly =>
        refine ⟨id, id, id, rfl, ?_⟩
        show _ → Ppu.ok { s.ppu with ly := 0 } = true
        unfold Ppu.ok Ppu.lineOk
        simp only [Bool.and_eq_true]
        rintro ⟨⟨h1, h2⟩, h3⟩
        refine ⟨⟨h1, ?_⟩, ?_⟩
        · cases s.ppu.mode <;> rfl
        · revert h3; cases s.ppu.lcdWasOff <;> simp; exact fun _ a b => ⟨a, b⟩
      all_goals exact ⟨id, id, id, rfl, id⟩
    all_goals exact ⟨id, id, id, rfl, id⟩

end Sys2Proof.Machine
end

