-- ==== Sys2Proof/Tests/Slice0.lean ====
section
/-! SUPPORT. Tests. Every expected value comes from spec/: the "Encoding" lines of the rules for the decoder,
95_test_vectors.md for the steps (the vector's rule is in each name; numbers there are hexadecimal), the rules for the
witnesses. The witnesses show for each obligation with hypotheses a state and operands that meet them, clause by clause. -/

namespace Sys2Proof.Tests

open Sys2Proof.Machine

/-! ## Well-formedness -/

/-- 30_encoding.md R145: the check refuses each of the eleven illegal opcodes, and nothing in their neighbourhood. -/
theorem test_wellformed_refuses_the_illegal_opcodes :
    ([.illegal_d3, .illegal_db, .illegal_dd, .illegal_e3, .illegal_e4, .illegal_eb, .illegal_ec, .illegal_ed, .illegal_f4,
      .illegal_fc, .illegal_fd] : List Instr).map Instr.wellFormed = List.replicate 11 false := by decide

theorem test_wellformed_accepts_a_legal_instruction :
    Instr.wellFormed (.jp_nc_nn 0xFFFF) = true ∧ Instr.wellFormed (.stop 0xFF) = true := by decide

/-! ## Decoding: words written from the "Encoding" lines -/

/-- Every byte list decodes to the instruction beside it, with the byte after it left over. -/
def decodes (rows : List (List Byte × Instr)) : List (Except DecodeError (Instr × List Byte)) :=
  rows.map fun r => decode (r.1 ++ [0x99])

/-- What `decodes` is to give. -/
def expected (rows : List (List Byte × Instr)) : List (Except DecodeError (Instr × List Byte)) :=
  rows.map fun r => .ok (r.2, [0x99])

/-- R200, R202: 01dddsss, 01ddd110. -/
def rows_ld_b_r : List (List Byte × Instr) :=
  [ ([0b01000000], .ld_b_b), ([0b01000001], .ld_b_c), ([0b01000010], .ld_b_d), ([0b01000011], .ld_b_e),
     ([0b01000100], .ld_b_h), ([0b01000101], .ld_b_l), ([0b01000111], .ld_b_a), ([0b01000110], .ld_b_at_hl) ]
theorem test_decode_ld_b_r : decodes rows_ld_b_r = expected rows_ld_b_r := by rfl

/-- R200, R202: 01dddsss, 01ddd110. -/
def rows_ld_c_r : List (List Byte × Instr) :=
  [ ([0b01001000], .ld_c_b), ([0b01001001], .ld_c_c), ([0b01001010], .ld_c_d), ([0b01001011], .ld_c_e),
     ([0b01001100], .ld_c_h), ([0b01001101], .ld_c_l), ([0b01001111], .ld_c_a), ([0b01001110], .ld_c_at_hl) ]
theorem test_decode_ld_c_r : decodes rows_ld_c_r = expected rows_ld_c_r := by rfl

/-- R200, R202: 01dddsss, 01ddd110. -/
def rows_ld_d_r : List (List Byte × Instr) :=
  [ ([0b01010000], .ld_d_b), ([0b01010001], .ld_d_c), ([0b01010010], .ld_d_d), ([0b01010011], .ld_d_e),
     ([0b01010100], .ld_d_h), ([0b01010101], .ld_d_l), ([0b01010111], .ld_d_a), ([0b01010110], .ld_d_at_hl) ]
theorem test_decode_ld_d_r : decodes rows_ld_d_r = expected rows_ld_d_r := by rfl

/-- R200, R202: 01dddsss, 01ddd110. -/
def rows_ld_e_r : List (List Byte × Instr) :=
  [ ([0b01011000], .ld_e_b), ([0b01011001], .ld_e_c), ([0b01011010], .ld_e_d), ([0b01011011], .ld_e_e),
     ([0b01011100], .ld_e_h), ([0b01011101], .ld_e_l), ([0b01011111], .ld_e_a), ([0b01011110], .ld_e_at_hl) ]
theorem test_decode_ld_e_r : decodes rows_ld_e_r = expected rows_ld_e_r := by rfl

/-- R200, R202: 01dddsss, 01ddd110. -/
def rows_ld_h_r : List (List Byte × Instr) :=
  [ ([0b01100000], .ld_h_b), ([0b01100001], .ld_h_c), ([0b01100010], .ld_h_d), ([0b01100011], .ld_h_e),
     ([0b01100100], .ld_h_h), ([0b01100101], .ld_h_l), ([0b01100111], .ld_h_a), ([0b01100110], .ld_h_at_hl) ]
theorem test_decode_ld_h_r : decodes rows_ld_h_r = expected rows_ld_h_r := by rfl

/-- R200, R202: 01dddsss, 01ddd110. -/
def rows_ld_l_r : List (List Byte × Instr) :=
  [ ([0b01101000], .ld_l_b), ([0b01101001], .ld_l_c), ([0b01101010], .ld_l_d), ([0b01101011], .ld_l_e),
     ([0b01101100], .ld_l_h), ([0b01101101], .ld_l_l), ([0b01101111], .ld_l_a), ([0b01101110], .ld_l_at_hl) ]
theorem test_decode_ld_l_r : decodes rows_ld_l_r = expected rows_ld_l_r := by rfl

/-- R200, R202: 01dddsss, 01ddd110. -/
def rows_ld_a_r : List (List Byte × Instr) :=
  [ ([0b01111000], .ld_a_b), ([0b01111001], .ld_a_c), ([0b01111010], .ld_a_d), ([0b01111011], .ld_a_e),
     ([0b01111100], .ld_a_h), ([0b01111101], .ld_a_l), ([0b01111111], .ld_a_a), ([0b01111110], .ld_a_at_hl) ]
theorem test_decode_ld_a_r : decodes rows_ld_a_r = expected rows_ld_a_r := by rfl

/-- R201: 00ddd110 n. -/
def rows_ld_r_n : List (List Byte × Instr) :=
  [ ([0b00000110, 0x5A], .ld_b_n 0x5A), ([0b00001110, 0x5A], .ld_c_n 0x5A), ([0b00010110, 0x5A], .ld_d_n 0x5A),
     ([0b00011110, 0x5A], .ld_e_n 0x5A), ([0b00100110, 0x5A], .ld_h_n 0x5A), ([0b00101110, 0x5A], .ld_l_n 0x5A),
     ([0b00111110, 0x5A], .ld_a_n 0x5A) ]
theorem test_decode_ld_r_n : decodes rows_ld_r_n = expected rows_ld_r_n := by rfl

/-- R203, R204: 01110sss, 00110110 n. -/
def rows_ld_at_hl : List (List Byte × Instr) :=
  [ ([0b01110000], .ld_at_hl_b), ([0b01110001], .ld_at_hl_c), ([0b01110010], .ld_at_hl_d),
     ([0b01110011], .ld_at_hl_e), ([0b01110100], .ld_at_hl_h), ([0b01110101], .ld_at_hl_l),
     ([0b01110111], .ld_at_hl_a), ([0b00110110, 0x5A], .ld_at_hl_n 0x5A) ]
theorem test_decode_ld_at_hl : decodes rows_ld_at_hl = expected rows_ld_at_hl := by rfl

/-- R205 to R218. -/
def rows_ld_accumulator : List (List Byte × Instr) :=
  [ ([0b00001010], .ld_a_at_bc), ([0b00011010], .ld_a_at_de), ([0b00000010], .ld_at_bc_a),
     ([0b00010010], .ld_at_de_a), ([0b11111010, 0x34, 0x12], .ld_a_at_nn 0x1234),
     ([0b11101010, 0x34, 0x12], .ld_at_nn_a 0x1234), ([0b11110000, 0x5A], .ldh_a_at_n 0x5A),
     ([0b11100000, 0x5A], .ldh_at_n_a 0x5A), ([0b11110010], .ld_a_at_c), ([0b11100010], .ld_at_c_a),
     ([0b00100010], .ld_at_hli_a), ([0b00101010], .ld_a_at_hli), ([0b00110010], .ld_at_hld_a),
     ([0b00111010], .ld_a_at_hld) ]
theorem test_decode_ld_accumulator : decodes rows_ld_accumulator = expected rows_ld_accumulator := by rfl

/-- R230 to R235: 00rr0001, 08, F9, 11qq0101, 11qq0001, F8. -/
def rows_load16 : List (List Byte × Instr) :=
  [ ([0b00000001, 0x34, 0x12], .ld_bc_nn 0x1234), ([0b00010001, 0x34, 0x12], .ld_de_nn 0x1234),
     ([0b00100001, 0x34, 0x12], .ld_hl_nn 0x1234), ([0b00110001, 0x34, 0x12], .ld_sp_nn 0x1234),
     ([0b00001000, 0x34, 0x12], .ld_at_nn_sp 0x1234), ([0b11111001], .ld_sp_hl), ([0b11000101], .push_bc),
     ([0b11010101], .push_de), ([0b11100101], .push_hl), ([0b11110101], .push_af), ([0b11000001], .pop_bc),
     ([0b11010001], .pop_de), ([0b11100001], .pop_hl), ([0b11110001], .pop_af),
     ([0b11111000, 0x5A], .ld_hl_sp_e 0x5A) ]
theorem test_decode_load16 : decodes rows_load16 = expected rows_load16 := by rfl

/-- R253 to R276: 10ooosss, 10ooo110, 11ooo110 n. -/
def rows_add : List (List Byte × Instr) :=
  [ ([0b10000000], .add_a_b), ([0b10000001], .add_a_c), ([0b10000010], .add_a_d), ([0b10000011], .add_a_e),
     ([0b10000100], .add_a_h), ([0b10000101], .add_a_l), ([0b10000111], .add_a_a), ([0b10000110], .add_a_at_hl),
     ([0b11000110, 0x5A], .add_a_n 0x5A) ]
theorem test_decode_add : decodes rows_add = expected rows_add := by rfl

/-- R253 to R276: 10ooosss, 10ooo110, 11ooo110 n. -/
def rows_adc : List (List Byte × Instr) :=
  [ ([0b10001000], .adc_a_b), ([0b10001001], .adc_a_c), ([0b10001010], .adc_a_d), ([0b10001011], .adc_a_e),
     ([0b10001100], .adc_a_h), ([0b10001101], .adc_a_l), ([0b10001111], .adc_a_a), ([0b10001110], .adc_a_at_hl),
     ([0b11001110, 0x5A], .adc_a_n 0x5A) ]
theorem test_decode_adc : decodes rows_adc = expected rows_adc := by rfl

/-- R253 to R276: 10ooosss, 10ooo110, 11ooo110 n. -/
def rows_sub : List (List Byte × Instr) :=
  [ ([0b10010000], .sub_b), ([0b10010001], .sub_c), ([0b10010010], .sub_d), ([0b10010011], .sub_e),
     ([0b10010100], .sub_h), ([0b10010101], .sub_l), ([0b10010111], .sub_a), ([0b10010110], .sub_at_hl),
     ([0b11010110, 0x5A], .sub_n 0x5A) ]
theorem test_decode_sub : decodes rows_sub = expected rows_sub := by rfl

/-- R253 to R276: 10ooosss, 10ooo110, 11ooo110 n. -/
def rows_sbc : List (List Byte × Instr) :=
  [ ([0b10011000], .sbc_a_b), ([0b10011001], .sbc_a_c), ([0b10011010], .sbc_a_d), ([0b10011011], .sbc_a_e),
     ([0b10011100], .sbc_a_h), ([0b10011101], .sbc_a_l), ([0b10011111], .sbc_a_a), ([0b10011110], .sbc_a_at_hl),
     ([0b11011110, 0x5A], .sbc_a_n 0x5A) ]
theorem test_decode_sbc : decodes rows_sbc = expected rows_sbc := by rfl

/-- R253 to R276: 10ooosss, 10ooo110, 11ooo110 n. -/
def rows_and : List (List Byte × Instr) :=
  [ ([0b10100000], .and_b), ([0b10100001], .and_c), ([0b10100010], .and_d), ([0b10100011], .and_e),
     ([0b10100100], .and_h), ([0b10100101], .and_l), ([0b10100111], .and_a), ([0b10100110], .and_at_hl),
     ([0b11100110, 0x5A], .and_n 0x5A) ]
theorem test_decode_and : decodes rows_and = expected rows_and := by rfl

/-- R253 to R276: 10ooosss, 10ooo110, 11ooo110 n. -/
def rows_xor : List (List Byte × Instr) :=
  [ ([0b10101000], .xor_b), ([0b10101001], .xor_c), ([0b10101010], .xor_d), ([0b10101011], .xor_e),
     ([0b10101100], .xor_h), ([0b10101101], .xor_l), ([0b10101111], .xor_a), ([0b10101110], .xor_at_hl),
     ([0b11101110, 0x5A], .xor_n 0x5A) ]
theorem test_decode_xor : decodes rows_xor = expected rows_xor := by rfl

/-- R253 to R276: 10ooosss, 10ooo110, 11ooo110 n. -/
def rows_or : List (List Byte × Instr) :=
  [ ([0b10110000], .or_b), ([0b10110001], .or_c), ([0b10110010], .or_d), ([0b10110011], .or_e),
     ([0b10110100], .or_h), ([0b10110101], .or_l), ([0b10110111], .or_a), ([0b10110110], .or_at_hl),
     ([0b11110110, 0x5A], .or_n 0x5A) ]
theorem test_decode_or : decodes rows_or = expected rows_or := by rfl

/-- R253 to R276: 10ooosss, 10ooo110, 11ooo110 n. -/
def rows_cp : List (List Byte × Instr) :=
  [ ([0b10111000], .cp_b), ([0b10111001], .cp_c), ([0b10111010], .cp_d), ([0b10111011], .cp_e),
     ([0b10111100], .cp_h), ([0b10111101], .cp_l), ([0b10111111], .cp_a), ([0b10111110], .cp_at_hl),
     ([0b11111110, 0x5A], .cp_n 0x5A) ]
theorem test_decode_cp : decodes rows_cp = expected rows_cp := by rfl

/-- R277 to R280, R291, R292: 00rrr100 and the pairs. -/
def rows_inc : List (List Byte × Instr) :=
  [ ([0b00000100], .inc_b), ([0b00001100], .inc_c), ([0b00010100], .inc_d), ([0b00011100], .inc_e),
     ([0b00100100], .inc_h), ([0b00101100], .inc_l), ([0b00111100], .inc_a), ([0b00110100], .inc_at_hl),
     ([0b00000011], .inc_bc), ([0b00010011], .inc_de), ([0b00100011], .inc_hl), ([0b00110011], .inc_sp) ]
theorem test_decode_inc : decodes rows_inc = expected rows_inc := by rfl

/-- R277 to R280, R291, R292: 00rrr101 and the pairs. -/
def rows_dec : List (List Byte × Instr) :=
  [ ([0b00000101], .dec_b), ([0b00001101], .dec_c), ([0b00010101], .dec_d), ([0b00011101], .dec_e),
     ([0b00100101], .dec_h), ([0b00101101], .dec_l), ([0b00111101], .dec_a), ([0b00110101], .dec_at_hl),
     ([0b00001011], .dec_bc), ([0b00011011], .dec_de), ([0b00101011], .dec_hl), ([0b00111011], .dec_sp) ]
theorem test_decode_dec : decodes rows_dec = expected rows_dec := by rfl

/-- R281 to R284, R290, R293, R300 to R303. -/
def rows_alu_rest : List (List Byte × Instr) :=
  [ ([0b00100111], .daa), ([0b00101111], .cpl), ([0b00110111], .scf), ([0b00111111], .ccf),
     ([0b00001001], .add_hl_bc), ([0b00011001], .add_hl_de), ([0b00101001], .add_hl_hl), ([0b00111001], .add_hl_sp),
     ([0b11101000, 0x5A], .add_sp_e 0x5A), ([0b00000111], .rlca), ([0b00001111], .rrca), ([0b00010111], .rla),
     ([0b00011111], .rra) ]
theorem test_decode_alu_rest : decodes rows_alu_rest = expected rows_alu_rest := by rfl

/-- R304 to R320: CB 00ooorrr. -/
def rows_cb_rlc : List (List Byte × Instr) :=
  [ ([0xCB, 0b00000000], .rlc_b), ([0xCB, 0b00000001], .rlc_c), ([0xCB, 0b00000010], .rlc_d),
     ([0xCB, 0b00000011], .rlc_e), ([0xCB, 0b00000100], .rlc_h), ([0xCB, 0b00000101], .rlc_l),
     ([0xCB, 0b00000111], .rlc_a), ([0xCB, 0b00000110], .rlc_at_hl) ]
theorem test_decode_cb_rlc : decodes rows_cb_rlc = expected rows_cb_rlc := by rfl

/-- R304 to R320: CB 00ooorrr. -/
def rows_cb_rrc : List (List Byte × Instr) :=
  [ ([0xCB, 0b00001000], .rrc_b), ([0xCB, 0b00001001], .rrc_c), ([0xCB, 0b00001010], .rrc_d),
     ([0xCB, 0b00001011], .rrc_e), ([0xCB, 0b00001100], .rrc_h), ([0xCB, 0b00001101], .rrc_l),
     ([0xCB, 0b00001111], .rrc_a), ([0xCB, 0b00001110], .rrc_at_hl) ]
theorem test_decode_cb_rrc : decodes rows_cb_rrc = expected rows_cb_rrc := by rfl

/-- R304 to R320: CB 00ooorrr. -/
def rows_cb_rl : List (List Byte × Instr) :=
  [ ([0xCB, 0b00010000], .rl_b), ([0xCB, 0b00010001], .rl_c), ([0xCB, 0b00010010], .rl_d),
     ([0xCB, 0b00010011], .rl_e), ([0xCB, 0b00010100], .rl_h), ([0xCB, 0b00010101], .rl_l),
     ([0xCB, 0b00010111], .rl_a), ([0xCB, 0b00010110], .rl_at_hl) ]
theorem test_decode_cb_rl : decodes rows_cb_rl = expected rows_cb_rl := by rfl

/-- R304 to R320: CB 00ooorrr. -/
def rows_cb_rr : List (List Byte × Instr) :=
  [ ([0xCB, 0b00011000], .rr_b), ([0xCB, 0b00011001], .rr_c), ([0xCB, 0b00011010], .rr_d),
     ([0xCB, 0b00011011], .rr_e), ([0xCB, 0b00011100], .rr_h), ([0xCB, 0b00011101], .rr_l),
     ([0xCB, 0b00011111], .rr_a), ([0xCB, 0b00011110], .rr_at_hl) ]
theorem test_decode_cb_rr : decodes rows_cb_rr = expected rows_cb_rr := by rfl

/-- R304 to R320: CB 00ooorrr. -/
def rows_cb_sla : List (List Byte × Instr) :=
  [ ([0xCB, 0b00100000], .sla_b), ([0xCB, 0b00100001], .sla_c), ([0xCB, 0b00100010], .sla_d),
     ([0xCB, 0b00100011], .sla_e), ([0xCB, 0b00100100], .sla_h), ([0xCB, 0b00100101], .sla_l),
     ([0xCB, 0b00100111], .sla_a), ([0xCB, 0b00100110], .sla_at_hl) ]
theorem test_decode_cb_sla : decodes rows_cb_sla = expected rows_cb_sla := by rfl

/-- R304 to R320: CB 00ooorrr. -/
def rows_cb_sra : List (List Byte × Instr) :=
  [ ([0xCB, 0b00101000], .sra_b), ([0xCB, 0b00101001], .sra_c), ([0xCB, 0b00101010], .sra_d),
     ([0xCB, 0b00101011], .sra_e), ([0xCB, 0b00101100], .sra_h), ([0xCB, 0b00101101], .sra_l),
     ([0xCB, 0b00101111], .sra_a), ([0xCB, 0b00101110], .sra_at_hl) ]
theorem test_decode_cb_sra : decodes rows_cb_sra = expected rows_cb_sra := by rfl

/-- R304 to R320: CB 00ooorrr. -/
def rows_cb_swap : List (List Byte × Instr) :=
  [ ([0xCB, 0b00110000], .swap_b), ([0xCB, 0b00110001], .swap_c), ([0xCB, 0b00110010], .swap_d),
     ([0xCB, 0b00110011], .swap_e), ([0xCB, 0b00110100], .swap_h), ([0xCB, 0b00110101], .swap_l),
     ([0xCB, 0b00110111], .swap_a), ([0xCB, 0b00110110], .swap_at_hl) ]
theorem test_decode_cb_swap : decodes rows_cb_swap = expected rows_cb_swap := by rfl

/-- R304 to R320: CB 00ooorrr. -/
def rows_cb_srl : List (List Byte × Instr) :=
  [ ([0xCB, 0b00111000], .srl_b), ([0xCB, 0b00111001], .srl_c), ([0xCB, 0b00111010], .srl_d),
     ([0xCB, 0b00111011], .srl_e), ([0xCB, 0b00111100], .srl_h), ([0xCB, 0b00111101], .srl_l),
     ([0xCB, 0b00111111], .srl_a), ([0xCB, 0b00111110], .srl_at_hl) ]
theorem test_decode_cb_srl : decodes rows_cb_srl = expected rows_cb_srl := by rfl

/-- R321 to R326: CB 01bbbrrr. -/
def rows_cb_bit_0_1 : List (List Byte × Instr) :=
  [ ([0xCB, 0b01000000], .bit_0_b), ([0xCB, 0b01000001], .bit_0_c), ([0xCB, 0b01000010], .bit_0_d),
     ([0xCB, 0b01000011], .bit_0_e), ([0xCB, 0b01000100], .bit_0_h), ([0xCB, 0b01000101], .bit_0_l),
     ([0xCB, 0b01000111], .bit_0_a), ([0xCB, 0b01001000], .bit_1_b), ([0xCB, 0b01001001], .bit_1_c),
     ([0xCB, 0b01001010], .bit_1_d), ([0xCB, 0b01001011], .bit_1_e), ([0xCB, 0b01001100], .bit_1_h),
     ([0xCB, 0b01001101], .bit_1_l), ([0xCB, 0b01001111], .bit_1_a), ([0xCB, 0b01000110], .bit_0_at_hl),
     ([0xCB, 0b01001110], .bit_1_at_hl) ]
theorem test_decode_cb_bit_0_1 : decodes rows_cb_bit_0_1 = expected rows_cb_bit_0_1 := by rfl

/-- R321 to R326: CB 01bbbrrr. -/
def rows_cb_bit_2_3 : List (List Byte × Instr) :=
  [ ([0xCB, 0b01010000], .bit_2_b), ([0xCB, 0b01010001], .bit_2_c), ([0xCB, 0b01010010], .bit_2_d),
     ([0xCB, 0b01010011], .bit_2_e), ([0xCB, 0b01010100], .bit_2_h), ([0xCB, 0b01010101], .bit_2_l),
     ([0xCB, 0b01010111], .bit_2_a), ([0xCB, 0b01011000], .bit_3_b), ([0xCB, 0b01011001], .bit_3_c),
     ([0xCB, 0b01011010], .bit_3_d), ([0xCB, 0b01011011], .bit_3_e), ([0xCB, 0b01011100], .bit_3_h),
     ([0xCB, 0b01011101], .bit_3_l), ([0xCB, 0b01011111], .bit_3_a), ([0xCB, 0b01010110], .bit_2_at_hl),
     ([0xCB, 0b01011110], .bit_3_at_hl) ]
theorem test_decode_cb_bit_2_3 : decodes rows_cb_bit_2_3 = expected rows_cb_bit_2_3 := by rfl

/-- R321 to R326: CB 01bbbrrr. -/
def rows_cb_bit_4_5 : List (List Byte × Instr) :=
  [ ([0xCB, 0b01100000], .bit_4_b), ([0xCB, 0b01100001], .bit_4_c), ([0xCB, 0b01100010], .bit_4_d),
     ([0xCB, 0b01100011], .bit_4_e), ([0xCB, 0b01100100], .bit_4_h), ([0xCB, 0b01100101], .bit_4_l),
     ([0xCB, 0b01100111], .bit_4_a), ([0xCB, 0b01101000], .bit_5_b), ([0xCB, 0b01101001], .bit_5_c),
     ([0xCB, 0b01101010], .bit_5_d), ([0xCB, 0b01101011], .bit_5_e), ([0xCB, 0b01101100], .bit_5_h),
     ([0xCB, 0b01101101], .bit_5_l), ([0xCB, 0b01101111], .bit_5_a), ([0xCB, 0b01100110], .bit_4_at_hl),
     ([0xCB, 0b01101110], .bit_5_at_hl) ]
theorem test_decode_cb_bit_4_5 : decodes rows_cb_bit_4_5 = expected rows_cb_bit_4_5 := by rfl

/-- R321 to R326: CB 01bbbrrr. -/
def rows_cb_bit_6_7 : List (List Byte × Instr) :=
  [ ([0xCB, 0b01110000], .bit_6_b), ([0xCB, 0b01110001], .bit_6_c), ([0xCB, 0b01110010], .bit_6_d),
     ([0xCB, 0b01110011], .bit_6_e), ([0xCB, 0b01110100], .bit_6_h), ([0xCB, 0b01110101], .bit_6_l),
     ([0xCB, 0b01110111], .bit_6_a), ([0xCB, 0b01111000], .bit_7_b), ([0xCB, 0b01111001], .bit_7_c),
     ([0xCB, 0b01111010], .bit_7_d), ([0xCB, 0b01111011], .bit_7_e), ([0xCB, 0b01111100], .bit_7_h),
     ([0xCB, 0b01111101], .bit_7_l), ([0xCB, 0b01111111], .bit_7_a), ([0xCB, 0b01110110], .bit_6_at_hl),
     ([0xCB, 0b01111110], .bit_7_at_hl) ]
theorem test_decode_cb_bit_6_7 : decodes rows_cb_bit_6_7 = expected rows_cb_bit_6_7 := by rfl

/-- R321 to R326: CB 10bbbrrr. -/
def rows_cb_res_0_1 : List (List Byte × Instr) :=
  [ ([0xCB, 0b10000000], .res_0_b), ([0xCB, 0b10000001], .res_0_c), ([0xCB, 0b10000010], .res_0_d),
     ([0xCB, 0b10000011], .res_0_e), ([0xCB, 0b10000100], .res_0_h), ([0xCB, 0b10000101], .res_0_l),
     ([0xCB, 0b10000111], .res_0_a), ([0xCB, 0b10001000], .res_1_b), ([0xCB, 0b10001001], .res_1_c),
     ([0xCB, 0b10001010], .res_1_d), ([0xCB, 0b10001011], .res_1_e), ([0xCB, 0b10001100], .res_1_h),
     ([0xCB, 0b10001101], .res_1_l), ([0xCB, 0b10001111], .res_1_a), ([0xCB, 0b10000110], .res_0_at_hl),
     ([0xCB, 0b10001110], .res_1_at_hl) ]
theorem test_decode_cb_res_0_1 : decodes rows_cb_res_0_1 = expected rows_cb_res_0_1 := by rfl

/-- R321 to R326: CB 10bbbrrr. -/
def rows_cb_res_2_3 : List (List Byte × Instr) :=
  [ ([0xCB, 0b10010000], .res_2_b), ([0xCB, 0b10010001], .res_2_c), ([0xCB, 0b10010010], .res_2_d),
     ([0xCB, 0b10010011], .res_2_e), ([0xCB, 0b10010100], .res_2_h), ([0xCB, 0b10010101], .res_2_l),
     ([0xCB, 0b10010111], .res_2_a), ([0xCB, 0b10011000], .res_3_b), ([0xCB, 0b10011001], .res_3_c),
     ([0xCB, 0b10011010], .res_3_d), ([0xCB, 0b10011011], .res_3_e), ([0xCB, 0b10011100], .res_3_h),
     ([0xCB, 0b10011101], .res_3_l), ([0xCB, 0b10011111], .res_3_a), ([0xCB, 0b10010110], .res_2_at_hl),
     ([0xCB, 0b10011110], .res_3_at_hl) ]
theorem test_decode_cb_res_2_3 : decodes rows_cb_res_2_3 = expected rows_cb_res_2_3 := by rfl

/-- R321 to R326: CB 10bbbrrr. -/
def rows_cb_res_4_5 : List (List Byte × Instr) :=
  [ ([0xCB, 0b10100000], .res_4_b), ([0xCB, 0b10100001], .res_4_c), ([0xCB, 0b10100010], .res_4_d),
     ([0xCB, 0b10100011], .res_4_e), ([0xCB, 0b10100100], .res_4_h), ([0xCB, 0b10100101], .res_4_l),
     ([0xCB, 0b10100111], .res_4_a), ([0xCB, 0b10101000], .res_5_b), ([0xCB, 0b10101001], .res_5_c),
     ([0xCB, 0b10101010], .res_5_d), ([0xCB, 0b10101011], .res_5_e), ([0xCB, 0b10101100], .res_5_h),
     ([0xCB, 0b10101101], .res_5_l), ([0xCB, 0b10101111], .res_5_a), ([0xCB, 0b10100110], .res_4_at_hl),
     ([0xCB, 0b10101110], .res_5_at_hl) ]
theorem test_decode_cb_res_4_5 : decodes rows_cb_res_4_5 = expected rows_cb_res_4_5 := by rfl

/-- R321 to R326: CB 10bbbrrr. -/
def rows_cb_res_6_7 : List (List Byte × Instr) :=
  [ ([0xCB, 0b10110000], .res_6_b), ([0xCB, 0b10110001], .res_6_c), ([0xCB, 0b10110010], .res_6_d),
     ([0xCB, 0b10110011], .res_6_e), ([0xCB, 0b10110100], .res_6_h), ([0xCB, 0b10110101], .res_6_l),
     ([0xCB, 0b10110111], .res_6_a), ([0xCB, 0b10111000], .res_7_b), ([0xCB, 0b10111001], .res_7_c),
     ([0xCB, 0b10111010], .res_7_d), ([0xCB, 0b10111011], .res_7_e), ([0xCB, 0b10111100], .res_7_h),
     ([0xCB, 0b10111101], .res_7_l), ([0xCB, 0b10111111], .res_7_a), ([0xCB, 0b10110110], .res_6_at_hl),
     ([0xCB, 0b10111110], .res_7_at_hl) ]
theorem test_decode_cb_res_6_7 : decodes rows_cb_res_6_7 = expected rows_cb_res_6_7 := by rfl

/-- R321 to R326: CB 11bbbrrr. -/
def rows_cb_set_0_1 : List (List Byte × Instr) :=
  [ ([0xCB, 0b11000000], .set_0_b), ([0xCB, 0b11000001], .set_0_c), ([0xCB, 0b11000010], .set_0_d),
     ([0xCB, 0b11000011], .set_0_e), ([0xCB, 0b11000100], .set_0_h), ([0xCB, 0b11000101], .set_0_l),
     ([0xCB, 0b11000111], .set_0_a), ([0xCB, 0b11001000], .set_1_b), ([0xCB, 0b11001001], .set_1_c),
     ([0xCB, 0b11001010], .set_1_d), ([0xCB, 0b11001011], .set_1_e), ([0xCB, 0b11001100], .set_1_h),
     ([0xCB, 0b11001101], .set_1_l), ([0xCB, 0b11001111], .set_1_a), ([0xCB, 0b11000110], .set_0_at_hl),
     ([0xCB, 0b11001110], .set_1_at_hl) ]
theorem test_decode_cb_set_0_1 : decodes rows_cb_set_0_1 = expected rows_cb_set_0_1 := by rfl

/-- R321 to R326: CB 11bbbrrr. -/
def rows_cb_set_2_3 : List (List Byte × Instr) :=
  [ ([0xCB, 0b11010000], .set_2_b), ([0xCB, 0b11010001], .set_2_c), ([0xCB, 0b11010010], .set_2_d),
     ([0xCB, 0b11010011], .set_2_e), ([0xCB, 0b11010100], .set_2_h), ([0xCB, 0b11010101], .set_2_l),
     ([0xCB, 0b11010111], .set_2_a), ([0xCB, 0b11011000], .set_3_b), ([0xCB, 0b11011001], .set_3_c),
     ([0xCB, 0b11011010], .set_3_d), ([0xCB, 0b11011011], .set_3_e), ([0xCB, 0b11011100], .set_3_h),
     ([0xCB, 0b11011101], .set_3_l), ([0xCB, 0b11011111], .set_3_a), ([0xCB, 0b11010110], .set_2_at_hl),
     ([0xCB, 0b11011110], .set_3_at_hl) ]
theorem test_decode_cb_set_2_3 : decodes rows_cb_set_2_3 = expected rows_cb_set_2_3 := by rfl

/-- R321 to R326: CB 11bbbrrr. -/
def rows_cb_set_4_5 : List (List Byte × Instr) :=
  [ ([0xCB, 0b11100000], .set_4_b), ([0xCB, 0b11100001], .set_4_c), ([0xCB, 0b11100010], .set_4_d),
     ([0xCB, 0b11100011], .set_4_e), ([0xCB, 0b11100100], .set_4_h), ([0xCB, 0b11100101], .set_4_l),
     ([0xCB, 0b11100111], .set_4_a), ([0xCB, 0b11101000], .set_5_b), ([0xCB, 0b11101001], .set_5_c),
     ([0xCB, 0b11101010], .set_5_d), ([0xCB, 0b11101011], .set_5_e), ([0xCB, 0b11101100], .set_5_h),
     ([0xCB, 0b11101101], .set_5_l), ([0xCB, 0b11101111], .set_5_a), ([0xCB, 0b11100110], .set_4_at_hl),
     ([0xCB, 0b11101110], .set_5_at_hl) ]
theorem test_decode_cb_set_4_5 : decodes rows_cb_set_4_5 = expected rows_cb_set_4_5 := by rfl

/-- R321 to R326: CB 11bbbrrr. -/
def rows_cb_set_6_7 : List (List Byte × Instr) :=
  [ ([0xCB, 0b11110000], .set_6_b), ([0xCB, 0b11110001], .set_6_c), ([0xCB, 0b11110010], .set_6_d),
     ([0xCB, 0b11110011], .set_6_e), ([0xCB, 0b11110100], .set_6_h), ([0xCB, 0b11110101], .set_6_l),
     ([0xCB, 0b11110111], .set_6_a), ([0xCB, 0b11111000], .set_7_b), ([0xCB, 0b11111001], .set_7_c),
     ([0xCB, 0b11111010], .set_7_d), ([0xCB, 0b11111011], .set_7_e), ([0xCB, 0b11111100], .set_7_h),
     ([0xCB, 0b11111101], .set_7_l), ([0xCB, 0b11111111], .set_7_a), ([0xCB, 0b11110110], .set_6_at_hl),
     ([0xCB, 0b11111110], .set_7_at_hl) ]
theorem test_decode_cb_set_6_7 : decodes rows_cb_set_6_7 = expected rows_cb_set_6_7 := by rfl

/-- R330 to R334: C3, 110cc010, E9, 18, 001cc000. -/
def rows_jumps : List (List Byte × Instr) :=
  [ ([0b11000011, 0x34, 0x12], .jp_nn 0x1234), ([0b11000010, 0x34, 0x12], .jp_nz_nn 0x1234),
     ([0b11001010, 0x34, 0x12], .jp_z_nn 0x1234), ([0b11010010, 0x34, 0x12], .jp_nc_nn 0x1234),
     ([0b11011010, 0x34, 0x12], .jp_c_nn 0x1234), ([0b11101001], .jp_at_hl), ([0b00011000, 0x5A], .jr_e 0x5A),
     ([0b00100000, 0x5A], .jr_nz_e 0x5A), ([0b00101000, 0x5A], .jr_z_e 0x5A), ([0b00110000, 0x5A], .jr_nc_e 0x5A),
     ([0b00111000, 0x5A], .jr_c_e 0x5A) ]
theorem test_decode_jumps : decodes rows_jumps = expected rows_jumps := by rfl

/-- R335 to R340: CD, 110cc100, 11ttt111, C9, 110cc000, D9. -/
def rows_calls : List (List Byte × Instr) :=
  [ ([0b11001101, 0x34, 0x12], .call_nn 0x1234), ([0b11000100, 0x34, 0x12], .call_nz_nn 0x1234),
     ([0b11001100, 0x34, 0x12], .call_z_nn 0x1234), ([0b11010100, 0x34, 0x12], .call_nc_nn 0x1234),
     ([0b11011100, 0x34, 0x12], .call_c_nn 0x1234), ([0b11000111], .rst_00), ([0b11001111], .rst_08),
     ([0b11010111], .rst_10), ([0b11011111], .rst_18), ([0b11100111], .rst_20), ([0b11101111], .rst_28),
     ([0b11110111], .rst_30), ([0b11111111], .rst_38), ([0b11001001], .ret), ([0b11000000], .ret_nz),
     ([0b11001000], .ret_z), ([0b11010000], .ret_nc), ([0b11011000], .ret_c), ([0b11011001], .reti) ]
theorem test_decode_calls : decodes rows_calls = expected rows_calls := by rfl

/-- R350 to R354. -/
def rows_cpu_control : List (List Byte × Instr) :=
  [ ([0b00000000], .nop), ([0b01110110], .halt), ([0b00010000, 0x5A], .stop 0x5A), ([0b11110011], .di),
     ([0b11111011], .ei) ]
theorem test_decode_cpu_control : decodes rows_cpu_control = expected rows_cpu_control := by rfl

/-- R145, R355. -/
def rows_illegal : List (List Byte × Instr) :=
  [ ([0xD3], .illegal_d3), ([0xDB], .illegal_db), ([0xDD], .illegal_dd), ([0xE3], .illegal_e3),
     ([0xE4], .illegal_e4), ([0xEB], .illegal_eb), ([0xEC], .illegal_ec), ([0xED], .illegal_ed),
     ([0xF4], .illegal_f4), ([0xFC], .illegal_fc), ([0xFD], .illegal_fd) ]
theorem test_decode_illegal : decodes rows_illegal = expected rows_illegal := by rfl
/-! ## Steps: the vectors of 95_test_vectors.md -/

/-- F as a byte, the way the vectors give it. -/
def fl (f : Byte) : Flags := { z := f.getLsbD 7, n := f.getLsbD 6, hf := f.getLsbD 5, cy := f.getLsbD 4 }

/-- "Before" of a vector: everything 00 but SP and PC. -/
def zero : Regs :=
  { a := 0, b := 0, c := 0, d := 0, e := 0, h := 0, l := 0, flags := fl 0, sp := 0xFFFE, pc := 0x0100 }

/-- The reset machine with these registers, these bytes written and this code at PC. -/
def machine (code : List Byte) (g : Regs) (ram : List (Word × Byte)) : State :=
  (ram.foldl (fun (s : State) c => s.memWrite c.1 c.2) { State.reset with regs := g }).loadAtPc code

/-- The step answers a next state with these registers, these bytes and this cycle count. -/
def ends (s : State) (g : Regs) (ram : List (Word × Byte)) (cycles : Nat) : Bool :=
  match step s with
  | .next t => decide (t.regs = g) && ram.all (fun c => decide (t.memRead c.1 = c.2)) && decide (t.ctl.cycles = cycles)
  | _ => false

/-- A property of the state a step answers. -/
def leads (s : State) (p : State → Bool) : Bool :=
  match step s with
  | .next t => p t
  | _ => false

theorem test_r200_ld_b_a :
    ends (machine [0x47] { zero with a := 0x5A } [])
      { zero with a := 0x5A, b := 0x5A, pc := 0x0101 } [] 4 = true := by decide

theorem test_r200_ld_a_a :
    ends (machine [0x7F] { zero with a := 0x5A, flags := fl 0xF0 } [])
      { zero with a := 0x5A, flags := fl 0xF0, pc := 0x0101 } [] 4 = true := by decide

theorem test_r201_ld_c_n :
    ends (machine [0x0E, 0x9C] zero [])
      { zero with c := 0x9C, pc := 0x0102 } [] 8 = true := by decide

theorem test_r202_ld_e_at_hl :
    ends (machine [0x5E] { zero with h := 0xC0, l := 0x10 } [(0xC010, 0x77)])
      { zero with h := 0xC0, l := 0x10, e := 0x77, pc := 0x0101 } [] 8 = true := by decide

theorem test_r203_ld_at_hl_h :
    ends (machine [0x74] { zero with h := 0xC0, l := 0x10 } [])
      { zero with h := 0xC0, l := 0x10, pc := 0x0101 } [(0xC010, 0xC0)] 8 = true := by decide

theorem test_r204_ld_at_hl_n :
    ends (machine [0x36, 0x42] { zero with h := 0xC0, l := 0x10 } [])
      { zero with h := 0xC0, l := 0x10, pc := 0x0102 } [(0xC010, 0x42)] 12 = true := by decide

theorem test_r205_ld_a_at_bc :
    ends (machine [0x0A] { zero with b := 0xC1, c := 0x00 } [(0xC100, 0x3C)])
      { zero with b := 0xC1, c := 0x00, a := 0x3C, pc := 0x0101 } [] 8 = true := by decide

theorem test_r206_ld_a_at_de :
    ends (machine [0x1A] { zero with d := 0xC1, e := 0x00 } [(0xC100, 0x3C)])
      { zero with d := 0xC1, e := 0x00, a := 0x3C, pc := 0x0101 } [] 8 = true := by decide

theorem test_r207_ld_at_bc_a_echo :
    ends (machine [0x02] { zero with a := 0x99, b := 0xE1, c := 0x00 } [])
      { zero with a := 0x99, b := 0xE1, c := 0x00, pc := 0x0101 } [(0xC100, 0x99)] 8 = true := by decide

theorem test_r208_ld_at_de_a_echo :
    ends (machine [0x12] { zero with a := 0x99, d := 0xE1, e := 0x00 } [])
      { zero with a := 0x99, d := 0xE1, e := 0x00, pc := 0x0101 } [(0xC100, 0x99)] 8 = true := by decide

theorem test_r209_ld_a_at_nn_no_ram :
    ends (machine [0xFA, 0x00, 0xA0] { zero with a := 0x12 } [])
      { zero with a := 0xFF, pc := 0x0103 } [] 16 = true := by decide

theorem test_r210_ld_at_nn_a_rom :
    ends (machine [0xEA, 0x00, 0x00] { zero with a := 0x12 } [])
      { zero with a := 0x12, pc := 0x0103 } [(0x0000, 0x00)] 16 = true := by decide

theorem test_r211_ldh_a_if :
    ends (machine [0xF0, 0x0F] zero [(0xFF0F, 0x04)])
      { zero with a := 0xE4, pc := 0x0102 } [] 12 = true := by decide

theorem test_r212_ldh_ly_a :
    ends (machine [0xE0, 0x44] { zero with a := 0x99 } [])
      { zero with a := 0x99, pc := 0x0102 } [(0xFF44, 0x00)] 12 = true := by decide

theorem test_r213_ld_a_at_c :
    ends (machine [0xF2] { zero with c := 0x80 } [(0xFF80, 0x5D)])
      { zero with c := 0x80, a := 0x5D, pc := 0x0101 } [] 8 = true := by decide

theorem test_r214_ld_at_c_a_ie :
    ends (machine [0xE2] { zero with a := 0xFF, c := 0xFF } [])
      { zero with a := 0xFF, c := 0xFF, pc := 0x0101 } [(0xFFFF, 0x1F)] 8 = true := by decide

theorem test_r215_ld_hli_a :
    ends (machine [0x22] { zero with a := 0x11, h := 0xC0, l := 0xFF } [])
      { zero with a := 0x11, h := 0xC1, l := 0x00, pc := 0x0101 } [(0xC0FF, 0x11)] 8 = true := by decide

theorem test_r216_ld_a_hli_wraps :
    ends (machine [0x2A] { zero with h := 0xFF, l := 0xFF } [(0xFFFF, 0x15)])
      { zero with h := 0x00, l := 0x00, a := 0x15, pc := 0x0101 } [] 8 = true := by decide

theorem test_r217_ld_hld_a :
    ends (machine [0x32] { zero with a := 0x22, h := 0xC1, l := 0x00 } [])
      { zero with a := 0x22, h := 0xC0, l := 0xFF, pc := 0x0101 } [(0xC100, 0x22)] 8 = true := by decide

theorem test_r218_ld_a_hld_wraps :
    ends (machine [0x3A] { zero with a := 0x01, h := 0x00, l := 0x00 } [])
      { zero with a := 0x00, h := 0xFF, l := 0xFF, pc := 0x0101 } [] 8 = true := by decide

theorem test_r230_ld_de_nn :
    ends (machine [0x11, 0x34, 0x12] zero [])
      { zero with d := 0x12, e := 0x34, pc := 0x0103 } [] 12 = true := by decide

theorem test_r231_ld_at_nn_sp :
    ends (machine [0x08, 0x00, 0xC0] { zero with sp := 0xABCD } [])
      { zero with sp := 0xABCD, pc := 0x0103 } [(0xC000, 0xCD), (0xC001, 0xAB)] 20 = true := by decide

theorem test_r232_ld_sp_hl :
    ends (machine [0xF9] { zero with h := 0xC1, l := 0x23 } [])
      { zero with h := 0xC1, l := 0x23, sp := 0xC123, pc := 0x0101 } [] 8 = true := by decide

theorem test_r233_push_bc :
    ends (machine [0xC5] { zero with b := 0x12, c := 0x34, sp := 0xD000 } [])
      { zero with b := 0x12, c := 0x34, sp := 0xCFFE, pc := 0x0101 } [(0xCFFF, 0x12), (0xCFFE, 0x34)] 16 = true := by decide

theorem test_r234_pop_af :
    ends (machine [0xF1] { zero with sp := 0xD000 } [(0xD000, 0xFF), (0xD001, 0x12)])
      { zero with sp := 0xD002, a := 0x12, flags := fl 0xF0, pc := 0x0101 } [] 12 = true := by decide

theorem test_r234_pop_hl_across_ie :
    ends (machine [0xE1] zero [(0xFFFE, 0x34), (0xFFFF, 0x1F)])
      { zero with h := 0x1F, l := 0x34, sp := 0x0000, pc := 0x0101 } [] 12 = true := by decide

theorem test_r235_ld_hl_sp_plus_8 :
    ends (machine [0xF8, 0x08] { zero with sp := 0xFFF8 } [])
      { zero with sp := 0xFFF8, h := 0x00, l := 0x00, flags := fl 0x30, pc := 0x0102 } [] 12 = true := by decide

theorem test_r235_ld_hl_sp_minus_1 :
    ends (machine [0xF8, 0xFF] { zero with sp := 0x0000 } [])
      { zero with sp := 0x0000, h := 0xFF, l := 0xFF, flags := fl 0x00, pc := 0x0102 } [] 12 = true ∧
    ends (machine [0xF8, 0xFF] { zero with sp := 0x0001 } [])
      { zero with sp := 0x0001, h := 0x00, l := 0x00, flags := fl 0x30, pc := 0x0102 } [] 12 = true := by decide

theorem test_r253_add_a_b :
    ends (machine [0x80] { zero with a := 0x0F, b := 0x01 } [])
      { zero with a := 0x10, b := 0x01, flags := fl 0x20, pc := 0x0101 } [] 4 = true ∧
    ends (machine [0x80] { zero with a := 0xFF, b := 0x01 } [])
      { zero with a := 0x00, b := 0x01, flags := fl 0xB0, pc := 0x0101 } [] 4 = true := by decide

theorem test_r253_add_a_a :
    ends (machine [0x87] { zero with a := 0x80 } [])
      { zero with a := 0x00, flags := fl 0x90, pc := 0x0101 } [] 4 = true := by decide

theorem test_r254_add_a_at_hl :
    ends (machine [0x86] { zero with a := 0x3A, h := 0xC0, l := 0x00 } [(0xC000, 0xC6)])
      { zero with a := 0x00, h := 0xC0, l := 0x00, flags := fl 0xB0, pc := 0x0101 } [] 8 = true := by decide

theorem test_r255_add_a_n :
    ends (machine [0xC6, 0x38] { zero with a := 0x45 } [])
      { zero with a := 0x7D, flags := fl 0x00, pc := 0x0102 } [] 8 = true := by decide

theorem test_r256_adc_a_c :
    ends (machine [0x89] { zero with a := 0x0E, c := 0x01, flags := fl 0x10 } [])
      { zero with a := 0x10, c := 0x01, flags := fl 0x20, pc := 0x0101 } [] 4 = true := by decide

theorem test_r258_adc_a_n :
    ends (machine [0xCE, 0xFF] { zero with a := 0x00, flags := fl 0x10 } [])
      { zero with a := 0x00, flags := fl 0xB0, pc := 0x0102 } [] 8 = true := by decide

theorem test_r259_sub_b :
    ends (machine [0x90] { zero with a := 0x3E, b := 0x3E } [])
      { zero with a := 0x00, b := 0x3E, flags := fl 0xC0, pc := 0x0101 } [] 4 = true ∧
    ends (machine [0x90] { zero with a := 0x10, b := 0x01 } [])
      { zero with a := 0x0F, b := 0x01, flags := fl 0x60, pc := 0x0101 } [] 4 = true := by decide

theorem test_r261_sub_n :
    ends (machine [0xD6, 0x01] zero [])
      { zero with a := 0xFF, flags := fl 0x70, pc := 0x0102 } [] 8 = true := by decide

theorem test_r262_sbc_a_h :
    ends (machine [0x9C] { zero with a := 0x3B, h := 0x2A, flags := fl 0x10 } [])
      { zero with a := 0x10, h := 0x2A, flags := fl 0x40, pc := 0x0101 } [] 4 = true := by decide

theorem test_r264_sbc_a_n :
    ends (machine [0xDE, 0x00] { zero with flags := fl 0x10 } [])
      { zero with flags := fl 0x70, a := 0xFF, pc := 0x0102 } [] 8 = true := by decide

theorem test_r265_and_c :
    ends (machine [0xA1] { zero with a := 0x5A, c := 0x3F } [])
      { zero with a := 0x1A, c := 0x3F, flags := fl 0x20, pc := 0x0101 } [] 4 = true := by decide

theorem test_r267_and_n :
    ends (machine [0xE6, 0x00] { zero with a := 0xFF, flags := fl 0x10 } [])
      { zero with a := 0x00, flags := fl 0xA0, pc := 0x0102 } [] 8 = true := by decide

theorem test_r268_xor_a :
    ends (machine [0xAF] { zero with a := 0x5A, flags := fl 0xF0 } [])
      { zero with a := 0x00, flags := fl 0x80, pc := 0x0101 } [] 4 = true := by decide

theorem test_r271_or_b :
    ends (machine [0xB0] { zero with a := 0x50, b := 0x05 } [])
      { zero with a := 0x55, b := 0x05, flags := fl 0x00, pc := 0x0101 } [] 4 = true := by decide

theorem test_r274_cp_b :
    ends (machine [0xB8] { zero with a := 0x3C, b := 0x3C } [])
      { zero with a := 0x3C, b := 0x3C, flags := fl 0xC0, pc := 0x0101 } [] 4 = true := by decide

theorem test_r276_cp_n :
    ends (machine [0xFE, 0x40] { zero with a := 0x3C } [])
      { zero with a := 0x3C, flags := fl 0x50, pc := 0x0102 } [] 8 = true := by decide

theorem test_r277_inc_a_wraps :
    ends (machine [0x3C] { zero with a := 0xFF, flags := fl 0x10 } [])
      { zero with a := 0x00, flags := fl 0xB0, pc := 0x0101 } [] 4 = true := by decide

theorem test_r277_inc_b :
    ends (machine [0x04] { zero with b := 0x0F } [])
      { zero with b := 0x10, flags := fl 0x20, pc := 0x0101 } [] 4 = true := by decide

theorem test_r278_inc_at_hl :
    ends (machine [0x34] { zero with h := 0xC0, l := 0x00 } [(0xC000, 0xFF)])
      { zero with h := 0xC0, l := 0x00, flags := fl 0xA0, pc := 0x0101 } [(0xC000, 0x00)] 12 = true := by decide

theorem test_r279_dec_c :
    ends (machine [0x0D] { zero with c := 0x01, flags := fl 0x10 } [])
      { zero with c := 0x00, flags := fl 0xD0, pc := 0x0101 } [] 4 = true ∧
    ends (machine [0x0D] { zero with c := 0x10 } [])
      { zero with c := 0x0F, flags := fl 0x60, pc := 0x0101 } [] 4 = true := by decide

theorem test_r280_dec_at_hl :
    ends (machine [0x35] { zero with h := 0xC0, l := 0x00 } [(0xC000, 0x00)])
      { zero with h := 0xC0, l := 0x00, flags := fl 0x60, pc := 0x0101 } [(0xC000, 0xFF)] 12 = true := by decide

theorem test_r281_daa_after_addition :
    ends (machine [0x27] { zero with a := 0x7D } [])
      { zero with a := 0x83, flags := fl 0x00, pc := 0x0101 } [] 4 = true ∧
    ends (machine [0x27] { zero with a := 0x9A } [])
      { zero with a := 0x00, flags := fl 0x90, pc := 0x0101 } [] 4 = true ∧
    ends (machine [0x27] { zero with a := 0x32, flags := fl 0x30 } [])
      { zero with a := 0x98, flags := fl 0x10, pc := 0x0101 } [] 4 = true := by decide

theorem test_r281_daa_after_subtraction :
    ends (machine [0x27] { zero with a := 0x0F, flags := fl 0x60 } [])
      { zero with a := 0x09, flags := fl 0x40, pc := 0x0101 } [] 4 = true ∧
    ends (machine [0x27] { zero with a := 0xFF, flags := fl 0x70 } [])
      { zero with a := 0x99, flags := fl 0x50, pc := 0x0101 } [] 4 = true := by decide

theorem test_r282_cpl :
    ends (machine [0x2F] { zero with a := 0x35, flags := fl 0x80 } [])
      { zero with a := 0xCA, flags := fl 0xE0, pc := 0x0101 } [] 4 = true := by decide

theorem test_r283_scf :
    ends (machine [0x37] { zero with flags := fl 0xE0 } [])
      { zero with flags := fl 0x90, pc := 0x0101 } [] 4 = true := by decide

theorem test_r284_ccf :
    ends (machine [0x3F] { zero with flags := fl 0x70 } [])
      { zero with flags := fl 0x00, pc := 0x0101 } [] 4 = true ∧
    ends (machine [0x3F] { zero with flags := fl 0x80 } [])
      { zero with flags := fl 0x90, pc := 0x0101 } [] 4 = true := by decide

theorem test_r290_add_hl_bc :
    ends (machine [0x09] { zero with h := 0x0F, l := 0xFF, b := 0x00, c := 0x01, flags := fl 0x80 } [])
      { zero with h := 0x10, l := 0x00, b := 0x00, c := 0x01, flags := fl 0xA0, pc := 0x0101 } [] 8 = true := by decide

theorem test_r290_add_hl_hl :
    ends (machine [0x29] { zero with h := 0x8A, l := 0x23 } [])
      { zero with h := 0x14, l := 0x46, flags := fl 0x30, pc := 0x0101 } [] 8 = true := by decide

theorem test_r290_add_hl_sp :
    ends (machine [0x39] { zero with h := 0x00, l := 0x01, sp := 0xFFFF } [])
      { zero with h := 0x00, l := 0x00, sp := 0xFFFF, flags := fl 0x30, pc := 0x0101 } [] 8 = true := by decide

theorem test_r291_inc_bc_wraps :
    ends (machine [0x03] { zero with b := 0xFF, c := 0xFF } [])
      { zero with b := 0x00, c := 0x00, pc := 0x0101 } [] 8 = true := by decide

theorem test_r292_dec_sp_wraps :
    ends (machine [0x3B] { zero with sp := 0x0000, flags := fl 0xF0 } [])
      { zero with sp := 0xFFFF, flags := fl 0xF0, pc := 0x0101 } [] 8 = true := by decide

theorem test_r293_add_sp_e :
    ends (machine [0xE8, 0x01] { zero with sp := 0x00FF } [])
      { zero with sp := 0x0100, flags := fl 0x30, pc := 0x0102 } [] 16 = true ∧
    ends (machine [0xE8, 0xFE] { zero with sp := 0x0001 } [])
      { zero with sp := 0xFFFF, flags := fl 0x00, pc := 0x0102 } [] 16 = true := by decide

theorem test_r300_rlca :
    ends (machine [0x07] { zero with a := 0x85 } [])
      { zero with a := 0x0B, flags := fl 0x10, pc := 0x0101 } [] 4 = true ∧
    ends (machine [0x07] { zero with flags := fl 0x80 } [])
      { zero with flags := fl 0x00, pc := 0x0101 } [] 4 = true := by decide

theorem test_r301_rrca :
    ends (machine [0x0F] { zero with a := 0x01 } [])
      { zero with a := 0x80, flags := fl 0x10, pc := 0x0101 } [] 4 = true := by decide

theorem test_r302_rla :
    ends (machine [0x17] { zero with a := 0x80 } [])
      { zero with a := 0x00, flags := fl 0x10, pc := 0x0101 } [] 4 = true := by decide

theorem test_r303_rra :
    ends (machine [0x1F] { zero with a := 0x01, flags := fl 0x10 } [])
      { zero with a := 0x80, flags := fl 0x10, pc := 0x0101 } [] 4 = true := by decide

theorem test_r305_rlc_b :
    ends (machine [0xCB, 0x00] { zero with b := 0x80 } [])
      { zero with b := 0x01, flags := fl 0x10, pc := 0x0102 } [] 8 = true ∧
    ends (machine [0xCB, 0x00] zero [])
      { zero with flags := fl 0x80, pc := 0x0102 } [] 8 = true := by decide

theorem test_r306_rlc_at_hl :
    ends (machine [0xCB, 0x06] { zero with h := 0xC0, l := 0x00 } [(0xC000, 0x81)])
      { zero with h := 0xC0, l := 0x00, flags := fl 0x10, pc := 0x0102 } [(0xC000, 0x03)] 16 = true := by decide

theorem test_r307_rrc_c :
    ends (machine [0xCB, 0x09] { zero with c := 0x01 } [])
      { zero with c := 0x80, flags := fl 0x10, pc := 0x0102 } [] 8 = true := by decide

theorem test_r309_rl_d :
    ends (machine [0xCB, 0x12] { zero with d := 0x80 } [])
      { zero with d := 0x00, flags := fl 0x90, pc := 0x0102 } [] 8 = true := by decide

theorem test_r311_rr_e :
    ends (machine [0xCB, 0x1B] { zero with e := 0x01, flags := fl 0x10 } [])
      { zero with e := 0x80, flags := fl 0x10, pc := 0x0102 } [] 8 = true := by decide

theorem test_r313_sla_h :
    ends (machine [0xCB, 0x24] { zero with h := 0xFF } [])
      { zero with h := 0xFE, flags := fl 0x10, pc := 0x0102 } [] 8 = true := by decide

theorem test_r315_sra_l :
    ends (machine [0xCB, 0x2D] { zero with l := 0x81 } [])
      { zero with l := 0xC0, flags := fl 0x10, pc := 0x0102 } [] 8 = true := by decide

theorem test_r317_swap_a :
    ends (machine [0xCB, 0x37] { zero with a := 0xF0, flags := fl 0x10 } [])
      { zero with a := 0x0F, flags := fl 0x00, pc := 0x0102 } [] 8 = true := by decide

theorem test_r319_srl_a :
    ends (machine [0xCB, 0x3F] { zero with a := 0x01 } [])
      { zero with a := 0x00, flags := fl 0x90, pc := 0x0102 } [] 8 = true := by decide

theorem test_r320_srl_at_hl :
    ends (machine [0xCB, 0x3E] { zero with h := 0xC0, l := 0x00 } [(0xC000, 0x80)])
      { zero with h := 0xC0, l := 0x00, flags := fl 0x00, pc := 0x0102 } [(0xC000, 0x40)] 16 = true := by decide

theorem test_r321_bit_7_h :
    ends (machine [0xCB, 0x7C] { zero with h := 0x80, flags := fl 0x10 } [])
      { zero with h := 0x80, flags := fl 0x30, pc := 0x0102 } [] 8 = true := by decide

theorem test_r321_bit_0_a :
    ends (machine [0xCB, 0x47] { zero with a := 0xFE } [])
      { zero with a := 0xFE, flags := fl 0xA0, pc := 0x0102 } [] 8 = true := by decide

theorem test_r322_bit_3_at_hl :
    ends (machine [0xCB, 0x5E] { zero with h := 0xC0, l := 0x00 } [(0xC000, 0x08)])
      { zero with h := 0xC0, l := 0x00, flags := fl 0x20, pc := 0x0102 } [] 12 = true := by decide

theorem test_r323_res_0_a :
    ends (machine [0xCB, 0x87] { zero with a := 0xFF, flags := fl 0xF0 } [])
      { zero with a := 0xFE, flags := fl 0xF0, pc := 0x0102 } [] 8 = true := by decide

theorem test_r324_res_7_at_hl :
    ends (machine [0xCB, 0xBE] { zero with h := 0xC0, l := 0x00 } [(0xC000, 0xFF)])
      { zero with h := 0xC0, l := 0x00, pc := 0x0102 } [(0xC000, 0x7F)] 16 = true := by decide

theorem test_r325_set_4_b :
    ends (machine [0xCB, 0xE0] zero [])
      { zero with b := 0x10, pc := 0x0102 } [] 8 = true := by decide

theorem test_r326_set_0_at_hl :
    ends (machine [0xCB, 0xC6] { zero with h := 0xC0, l := 0x00 } [(0xC000, 0x00)])
      { zero with h := 0xC0, l := 0x00, pc := 0x0102 } [(0xC000, 0x01)] 16 = true := by decide

theorem test_r330_jp_nn :
    ends (machine [0xC3, 0x00, 0x02] zero [])
      { zero with pc := 0x0200 } [] 16 = true := by decide

theorem test_r331_jp_z_nn_not_taken :
    ends (machine [0xCA, 0x00, 0x02] zero [])
      { zero with pc := 0x0103 } [] 12 = true := by decide

theorem test_r332_jp_at_hl :
    ends (machine [0xE9] { zero with h := 0x12, l := 0x34 } [])
      { zero with h := 0x12, l := 0x34, pc := 0x1234 } [] 4 = true := by decide

theorem test_r333_jr_backward :
    ends (machine [0x18, 0xFE] zero [])
      { zero with pc := 0x0100 } [] 12 = true ∧
    ends (machine [0x18, 0x80] { zero with pc := 0x0010 } [])
      { zero with pc := 0xFF92 } [] 12 = true := by decide

theorem test_r334_jr_c_not_taken :
    ends (machine [0x38, 0x10] zero [])
      { zero with pc := 0x0102 } [] 8 = true := by decide

theorem test_r336_call_nc_nn_taken :
    ends (machine [0xD4, 0x34, 0x12] { zero with sp := 0xD000 } [])
      { zero with sp := 0xCFFE, pc := 0x1234 } [(0xCFFF, 0x01), (0xCFFE, 0x03)] 24 = true := by decide

theorem test_r336_call_z_nn_not_taken :
    ends (machine [0xCC, 0x34, 0x12] { zero with sp := 0xD000 } [])
      { zero with sp := 0xD000, pc := 0x0103 } [] 12 = true := by decide

theorem test_r337_rst_08 :
    ends (machine [0xCF] { zero with sp := 0xD000 } [])
      { zero with sp := 0xCFFE, pc := 0x0008 } [(0xCFFF, 0x01), (0xCFFE, 0x01)] 16 = true := by decide

theorem test_r338_ret :
    ends (machine [0xC9] { zero with sp := 0xD000 } [(0xD000, 0x34), (0xD001, 0x12)])
      { zero with sp := 0xD002, pc := 0x1234 } [] 16 = true := by decide

theorem test_r339_ret_c :
    ends (machine [0xD8] { zero with flags := fl 0x10, sp := 0xD000 } [(0xD000, 0x34), (0xD001, 0x12)])
      { zero with flags := fl 0x10, sp := 0xD002, pc := 0x1234 } [] 20 = true ∧
    ends (machine [0xD0] { zero with flags := fl 0x10, sp := 0xD000 } [])
      { zero with flags := fl 0x10, sp := 0xD000, pc := 0x0101 } [] 8 = true := by decide

theorem test_r350_nop :
    ends (machine [0x00] zero [])
      { zero with pc := 0x0101 } [] 4 = true := by decide

/-! Interrupts, run states and faults. -/

/-- The machine with the control state and the interrupt registers of a vector set. -/
def withControl (s : State) (c : Control → Control) (ie iflag : BitVec 5) : State :=
  { s with ctl := c s.ctl, irq := { ie := ie, iflag := iflag } }

theorem test_r335_call_then_interrupt :
    ends (withControl (machine [0xCD, 0x00, 0x03] { zero with sp := 0xD000 } []) ({ · with ime := true }) 4 4)
      { zero with sp := 0xCFFC, pc := 0x0050 }
      [(0xCFFF, 0x01), (0xCFFE, 0x03), (0xCFFD, 0x03), (0xCFFC, 0x00), (0xFF0F, 0xE0)] 44 = true := by decide

theorem test_r340_reti_then_interrupt :
    ends (withControl (machine [0xD9] { zero with sp := 0xD000 } [(0xD000, 0x34), (0xD001, 0x12)]) id 1 1)
      { zero with sp := 0xD000, pc := 0x0040 } [(0xD001, 0x12), (0xD000, 0x34), (0xFF0F, 0xE0)] 36 = true := by decide

theorem test_r351_halt_waits :
    leads (machine [0x76] zero []) (fun t => t.ctl.halted && ends t { zero with pc := 0x0101 } [] 4) = true := by decide

theorem test_r352_stop_then_stopped_step :
    leads (machine [0x10, 0x00] zero []) (fun t => t.ctl.stopped && decide (t.regs.pc = 0x0102) &&
      leads t (fun u => decide (u.timer = t.timer) && decide (u.ppu = t.ppu) && decide (u.ctl.cycles = 0))) = true := by
  decide

theorem test_r353_di_in_the_ei_window :
    leads (withControl (machine [0xF3] zero []) ({ · with eiDelay := 1 }) 1 1)
      (fun t => !t.ctl.ime && decide (t.ctl.eiDelay = 0) && decide (t.regs.pc = 0x0101) && decide (t.ctl.cycles = 4)) =
      true := by decide

theorem test_r354_ei_then_nop :
    leads (withControl (machine [0xFB, 0x00] { zero with sp := 0xD000 } []) id 4 4)
      (fun t => !t.ctl.ime && decide (t.ctl.eiDelay = 1) && decide (t.ctl.cycles = 4) &&
        ends t { zero with sp := 0xCFFE, pc := 0x0050 } [(0xCFFF, 0x01), (0xCFFE, 0x02), (0xFF0F, 0xE0)] 24) = true := by
  decide

theorem test_r354_ei_does_not_restart_the_delay :
    leads (withControl (machine [0xFB] zero []) ({ · with eiDelay := 1 }) 0 0)
      (fun t => t.ctl.ime && decide (t.ctl.eiDelay = 0)) = true := by decide

theorem test_r355_illegal_fd :
    leads (machine [0xFD] zero []) (fun t =>
      decide (t = { machine [0xFD] zero [] with
        regs := { zero with pc := 0x0101 }
        ctl := { (machine [0xFD] zero []).ctl with fault := some { op := 0xFD, addr := 0x0100 } }
        hostDraw := 1 }) &&
      (match step t with | .fault r => decide (r = .illegalOpcode 0xFD 0x0100) | _ => false)) = true := by decide

theorem test_r412_wake_with_ime_0 :
    leads (withControl (machine [0x04] zero []) ({ · with halted := true }) 4 4)
      (fun t => !t.ctl.halted && decide (t.regs.b = 1) && decide (t.irq.iflag = 4) && decide (t.ctl.cycles = 4)) = true := by
  decide

/-- A halted step whose advance raises the timer request. -/
def haltedTimer : State :=
  { withControl (machine [0x04] { zero with sp := 0xD000 } []) ({ · with halted := true, ime := true }) 4 0 with
    timer := { div := 0, tima := 0xFF, tma := 0, tac := 0x05, divAcc := 0, timaAcc := 12 } }

theorem test_r411_halted_step_serves_the_timer :
    ends haltedTimer { zero with sp := 0xCFFE, pc := 0x0050 } [(0xCFFF, 0x01), (0xCFFE, 0x00), (0xFF0F, 0xE0)] 24 = true := by
  decide

theorem test_r422_priority_and_masks :
    leads (withControl (machine [0x00] { zero with sp := 0xD000 } []) ({ · with ime := true }) 0x1F 0x16)
        (fun t => decide (t.regs.pc = 0x0048) && decide (t.irq.iflag = 0x14) && decide (t.ctl.cycles = 24)) = true ∧
      leads (withControl (machine [0x00] zero []) ({ · with ime := true }) 0x10 0x0F)
        (fun t => decide (t.regs.pc = 0x0101) && decide (t.irq.iflag = 0x0F)) = true := by decide

theorem test_r423_entry_across_ie :
    leads (withControl (machine [0x00] { zero with sp := 0x0001 } []) ({ · with ime := true }) 1 1)
      (fun t => decide (t.regs.sp = 0xFFFF) && decide (t.regs.pc = 0x0040) && decide (t.irq = { ie := 1, iflag := 0 })) =
      true := by decide

/-! The timer, the PPU, memory and the host's word. -/

/-- The reset machine with this timer. -/
def timed (tima tma tac : Byte) (divAcc timaAcc : Nat) : State :=
  { State.reset with timer := { div := 0xFF, tima := tima, tma := tma, tac := tac, divAcc := divAcc, timaAcc := timaAcc } }

theorem test_r440_overflow_reloads_tma :
    ((timed 0xFF 0x42 0x05 0 0).advanceTimer 16).timer.tima = 0x42 ∧
      ((timed 0xFF 0x42 0x05 0 0).advanceTimer 16).irq.iflag = 4 ∧
      ((timed 0xFF 0xFF 0x05 0 0).advanceTimer 40).timer.timaAcc = 8 ∧
      ((timed 0xFE 0x00 0x05 0 0).advanceTimer 24).irq.iflag = 0 := by decide

theorem test_r441_div_wraps :
    ((timed 0 0 0 255 10).advanceTimer 1).timer =
      { div := 0x00, tima := 0, tma := 0, tac := 0, divAcc := 0, timaAcc := 10 } := by decide

theorem test_r453_mode_sequence :
    ((State.reset.advancePpu 80).ppu.mode, (State.reset.advancePpu 86).ppu.modeClock) = (PpuMode.readVRAM, 6) := by decide

theorem test_r456_vblank_entry :
    let s : State := { State.reset with ppu := { State.reset.ppu with mode := .hBlank, ly := 143 } }
    ((s.advancePpu 204).ppu.ly, (s.advancePpu 204).irq.iflag, (s.advancePpu 204).sink) = (144, 1, [.draw]) := by decide

theorem test_r451_r452_lcd_off_and_on :
    let off := (State.reset.memWrite 0xFF40 0x11).advancePpu 100
    let on := ((off.memWrite 0xFF40 0x91).memWrite 0xFF41 0x20).advancePpu 8
    (off.memRead 0xFF41, off.ppu.lcdWasOff) = (0x81, true) ∧
      (on.ppu.mode, on.ppu.modeClock, on.irq.iflag) = (.readOAM, 8, 2) := by decide

/-- 20_memory.md R88 to R93: an MBC1 cartridge with four ROM banks and 32 KiB of RAM, its bank number at each bank's first
byte. -/
def mbc1 : State :=
  State.resetWith
    { rom := { size := 0x10000
               cells := [(0x147, 0x03), (0x148, 0x01), (0x149, 0x03), (0x4000, 0x01), (0x8000, 0x02), (0xC000, 0x03)] }
      bios := none } 0 0

theorem test_r89_r92_rom_banking :
    mbc1.memRead 0x4000 = 0x01 ∧ (mbc1.memWrite 0x2000 0x03).memRead 0x4000 = 0x03 ∧
      (mbc1.memWrite 0x2000 0x00).memRead 0x4000 = 0x01 ∧ (mbc1.memWrite 0x2000 0x06).memRead 0x4000 = 0x02 := by decide

theorem test_r82_r88_cartridge_ram :
    (mbc1.memWrite 0xA000 0x5A).memRead 0xA000 = 0xFF ∧
      ((mbc1.memWrite 0x0000 0x0A).memWrite 0xA000 0x5A).memRead 0xA000 = 0x5A := by decide

/-- The decoder and a step on a word of the opcode table: LD B,A (0x47) and SWAP A (0xCB37). -/
theorem test_table_words :
    decodeTableWord 8 0x47 = some .ld_b_a ∧ decodeTableWord 16 0xCB37 = some .swap_a ∧
      decodeTableWord 8 0xC3 = some (.jp_nn 0x0000) := ⟨rfl, rfl, rfl⟩

theorem test_with_fetch_word_runs_first :
    leads (State.reset.withFetchWord 8 0x47) (fun t => decide (t.regs.b = 0x01) && decide (t.regs.pc = 0x0101)) = true ∧
      leads (State.reset.withFetchWord 16 0xCB37) (fun t => decide (t.regs.a = 0x10)) = true := by decide
/-! ## Witnesses: states and operands that meet the obligations' hypotheses, clause by clause -/

/-- The machine at a register file of zeros runs this code. -/
def running (code : List Byte) : State := machine code zero []

theorem witness_EncodeDecodeRoundTrip : decode [0xCB, 0x37, 0xFF] = .ok (.swap_a, [0xFF]) := rfl

theorem witness_OpcodeSpaceIsFull : Instr.wellFormed .illegal_fd = false ∧ encode .illegal_fd = [0xFD] := ⟨rfl, rfl⟩

theorem witness_StepRunsDecodedInstruction_next :
    (running [0x47]).FetchesInstr .ld_b_a ∧
      ∃ t, exec .ld_b_a ((running [0x47]).fetched .ld_b_a) = .next t ∧ t.ctl.fault = none :=
  ⟨⟨⟨rfl, rfl, rfl⟩, _, rfl⟩, _, rfl, rfl⟩

theorem witness_StepRunsDecodedInstruction_fault :
    (running [0xD3]).FetchesInstr .illegal_d3 ∧
      ∃ t, exec .illegal_d3 ((running [0xD3]).fetched .illegal_d3) = .next t ∧ t.ctl.fault ≠ none :=
  ⟨⟨⟨rfl, rfl, rfl⟩, _, rfl⟩, _, rfl, by simp [State.raiseIllegal]⟩

theorem witness_OnlyARecordedFaultEndsTheRun :
    State.Safe State.reset ∧ ∃ (s : State) (r : IllegalOpcode), s.ctl.fault = some r :=
  ⟨rfl, { State.reset with ctl := { State.reset.ctl with fault := some { op := 0xD3, addr := 0xFFFF } } }, _, rfl⟩

theorem witness_IllegalOpcodeStopsTheMachine :
    Instr.shape .illegal_fd = .illegal 0xFD ∧ (running [0xFD]).FetchesInstr .illegal_fd :=
  ⟨rfl, ⟨rfl, rfl, rfl⟩, _, rfl⟩

theorem witness_StoppedStepDoesNothing : State.Safe State.reset.hostPause ∧ State.reset.hostPause.ctl.stopped = true :=
  ⟨rfl, rfl⟩

/-- Halted with nothing requested, IME 1, and a timer that overflows in the step's own four cycles. -/
theorem witness_HaltedStepGrantsFourCycles :
    haltedTimer.Safe ∧ haltedTimer.ctl.stopped = false ∧ haltedTimer.ctl.halted = true ∧
      haltedTimer.irq.ie &&& haltedTimer.irq.iflag = 0 ∧ haltedTimer.ctl.ime = true ∧
      ServedNext (((haltedTimer.leaveBios.took 4).advanceTimer 4).advancePpu 4) .timer := by
  refine ⟨rfl, rfl, rfl, rfl, rfl, by decide, by decide, ?_⟩
  intro j
  cases j <;> decide

theorem witness_HaltedStepGrantsFourCycles_waits :
    let s := withControl (running [0x00]) ({ · with halted := true }) 0x1F 0
    s.Safe ∧ s.ctl.stopped = false ∧ s.ctl.halted = true ∧ s.irq.ie &&& s.irq.iflag = 0 ∧ s.ctl.ime = false :=
  ⟨rfl, rfl, rfl, rfl, rfl⟩

theorem witness_PendingRequestWakesHaltedCpu :
    let s := withControl (running [0x04]) ({ · with halted := true }) 0x10 0x1F
    s.Safe ∧ s.ctl.stopped = false ∧ s.ctl.halted = true ∧ s.irq.ie &&& s.irq.iflag ≠ 0 :=
  ⟨rfl, rfl, rfl, by decide⟩

theorem witness_EiDelaysByOneInstruction_ei :
    (running [0xFB]).FetchesInstr .ei ∧ (running [0xFB]).ctl.ime = false ∧ (running [0xFB]).ctl.eiDelay = 0 :=
  ⟨⟨⟨rfl, rfl, rfl⟩, _, rfl⟩, rfl, rfl⟩

theorem witness_EiDelaysByOneInstruction_next :
    let s := withControl (running [0xFB]) ({ · with eiDelay := 1 }) 0 0
    s.FetchesInstr .ei ∧ s.ctl.eiDelay = 1 ∧ Instr.ei ≠ .di ∧ Instr.wellFormed .ei = true :=
  ⟨⟨⟨rfl, rfl, rfl⟩, _, rfl⟩, rfl, by simp, rfl⟩

theorem witness_OnlyEiAndRetiEnableInterrupts :
    leads (withControl (running [0x00]) ({ · with eiDelay := 1 }) 0 0) (fun t => t.ctl.ime) = true ∧
      leads (running [0xD9]) (fun t => t.ctl.ime) = true ∧ (running [0xD9]).ctl.ime = false := by decide

theorem witness_InterruptEntry_vblank :
    let s := withControl (running [0x00]) ({ · with ime := true }) 0x1F 0x1F
    s.ctl.ime = true ∧ ServedNext s .vblank := by
  refine ⟨rfl, rfl, rfl, ?_⟩
  intro j
  cases j <;> decide

theorem witness_InterruptEntry_joypad :
    let s := withControl (running [0x00]) ({ · with ime := true }) 0x1F 0x10
    s.ctl.ime = true ∧ ServedNext s .joypad := by
  refine ⟨rfl, rfl, rfl, ?_⟩
  intro j
  cases j <;> decide

theorem witness_InterruptCheckServesOnlyEnabledRequests :
    State.reset.ctl.ime = false ∧ (withControl State.reset id 0x0F 0x10).irq.ie &&& 0x10 = 0 ∧
      (withControl State.reset id 0x10 0x10).irq.ie &&& (withControl State.reset id 0x10 0x10).irq.iflag ≠ 0 := by decide

theorem witness_StepReturnsItsCycles :
    leads State.reset.hostPause (fun t => decide (t.ctl.fault = none) && decide (t.ctl.cycles = 0)) = true ∧
      leads (running [0x00]) (fun t => decide (t.ctl.fault = none) && decide (t.ctl.cycles = 4)) = true := by decide

/-! The shapes the instruction statements are made for: the first and the last operand value of each. -/

theorem witness_loads :
    Instr.shape .ld_b_b = .ldRR .b .b ∧ Instr.shape .ld_a_a = .ldRR .a .a ∧ Instr.shape (.ld_b_n 0) = .ldRN .b 0 ∧
      Instr.shape (.ld_a_n 0xFF) = .ldRN .a 0xFF ∧ Instr.shape .ld_b_at_hl = .ldRAtHL .b ∧
      Instr.shape .ld_a_at_hl = .ldRAtHL .a ∧ Instr.shape .ld_at_hl_b = .ldAtHLR .b ∧
      Instr.shape .ld_at_hl_a = .ldAtHLR .a ∧ Instr.shape (.ld_bc_nn 0) = .ldPairNn .bc 0 ∧
      Instr.shape (.ld_sp_nn 0xFFFF) = .ldPairNn .sp 0xFFFF :=
  ⟨rfl, rfl, rfl, rfl, rfl, rfl, rfl, rfl, rfl, rfl⟩

theorem witness_stack :
    Instr.shape .push_bc = .push .bc ∧ Instr.shape .push_af = .push .af ∧ Instr.shape .pop_bc = .pop .bc ∧
      Instr.shape .pop_af = .pop .af :=
  ⟨rfl, rfl, rfl, rfl⟩

/-- A stack in high RAM and one that straddles the echo's end and OAM. -/
theorem witness_PushThenPopRestores :
    (running []).locate ((running []).regs.sp - 1) = .cell 0xFFFD ∧
      (running []).locate ((running []).regs.sp - 2) = .cell 0xFFFC ∧
      let s := machine [] { zero with sp := 0xFE01 } []
      s.locate (s.regs.sp - 1) = .cell 0xFE00 ∧ s.locate (s.regs.sp - 2) = .cell 0xDDFF :=
  ⟨rfl, rfl, rfl, rfl⟩

theorem witness_AddWithFlags :
    AluForm .add_a_b .add (running []) 0 [0x80] 4 ∧ AluForm .adc_a_at_hl .adc (running []) ((running []).memRead 0) [0x8E] 8 ∧
      AluForm (.add_a_n 0xFF) .add (running []) 0xFF [0xC6, 0xFF] 8 :=
  ⟨.inl ⟨.b, rfl, rfl, rfl, rfl⟩, .inr (.inl ⟨rfl, rfl, rfl, rfl⟩), .inr (.inr ⟨0xFF, rfl, rfl, rfl, rfl⟩)⟩

theorem witness_SubtractWithFlags :
    AluForm .sub_a .sub (running []) 0 [0x97] 4 ∧ AluForm .sbc_a_at_hl .sbc (running []) ((running []).memRead 0) [0x9E] 8 ∧
      AluForm (.cp_n 0xFF) .cp (running []) 0xFF [0xFE, 0xFF] 8 :=
  ⟨.inl ⟨.a, rfl, rfl, rfl, rfl⟩, .inr (.inl ⟨rfl, rfl, rfl, rfl⟩), .inr (.inr ⟨0xFF, rfl, rfl, rfl, rfl⟩)⟩

theorem witness_LogicWithFlags :
    AluForm .and_l .and (running []) 0 [0xA5] 4 ∧ AluForm .xor_at_hl .xor (running []) ((running []).memRead 0) [0xAE] 8 ∧
      AluForm (.or_n 0xFF) .or (running []) 0xFF [0xF6, 0xFF] 8 :=
  ⟨.inl ⟨.l, rfl, rfl, rfl, rfl⟩, .inr (.inl ⟨rfl, rfl, rfl, rfl⟩), .inr (.inr ⟨0xFF, rfl, rfl, rfl, rfl⟩)⟩

theorem witness_IncrementByte_PairArithmetic :
    Instr.shape .inc_b = .incR .b ∧ Instr.shape .inc_a = .incR .a ∧ Instr.shape .dec_b = .decR .b ∧
      Instr.shape .dec_a = .decR .a ∧ Instr.shape .add_hl_bc = .addHl .bc ∧ Instr.shape .add_hl_sp = .addHl .sp ∧
      Instr.shape .inc_bc = .incPair .bc ∧ Instr.shape .inc_sp = .incPair .sp ∧ Instr.shape .dec_bc = .decPair .bc ∧
      Instr.shape .dec_sp = .decPair .sp :=
  ⟨rfl, rfl, rfl, rfl, rfl, rfl, rfl, rfl, rfl, rfl⟩

/-- DAA after an addition, with both magnitude tests met, and after a subtraction. -/
theorem witness_DecimalAdjust :
    let s := machine [] { zero with a := 0x9A } []
    s.regs.flags.n = false ∧ 0x99 < s.regs.a.toNat ∧ 0x09 < s.regs.a.toNat % 16 ∧
      (machine [] { zero with flags := fl 0x70 } []).regs.flags.n = true := by decide

theorem witness_shifts_and_bits :
    Instr.shape .rlc_b = .shiftR .rlc .b ∧ Instr.shape .srl_a = .shiftR .srl .a ∧
      Instr.shape .rlc_at_hl = .shiftAtHL .rlc ∧ Instr.shape .srl_at_hl = .shiftAtHL .srl ∧
      Instr.shape .bit_0_b = .bitR 0 .b ∧ Instr.shape .bit_7_a = .bitR 7 .a ∧ Instr.shape .bit_7_at_hl = .bitAtHL 7 ∧
      Instr.shape .res_0_b = .resR 0 .b ∧ Instr.shape .res_7_at_hl = .resAtHL 7 ∧ Instr.shape .set_7_a = .setR 7 .a ∧
      Instr.shape .set_0_at_hl = .setAtHL 0 :=
  ⟨rfl, rfl, rfl, rfl, rfl, rfl, rfl, rfl, rfl, rfl, rfl⟩

/-- Each condition, true and false. -/
theorem witness_conditional_transfers :
    Instr.shape (.jp_nz_nn 0xFFFF) = .jpCc .nz 0xFFFF ∧ Instr.shape (.jr_c_e 0x80) = .jrCc .c 0x80 ∧
      Instr.shape (.call_nc_nn 0) = .callCc .nc 0 ∧ Instr.shape .ret_z = .retCc .z ∧ Instr.shape .rst_00 = .rst 0 ∧
      Instr.shape .rst_38 = .rst 7 ∧ CondTrue (fl 0x00) .nz ∧ CondTrue (fl 0x80) .z ∧ CondTrue (fl 0x80) .nc ∧
      CondTrue (fl 0x10) .c ∧ ¬ CondTrue (fl 0x80) .nz ∧ ¬ CondTrue (fl 0x10) .z ∧ ¬ CondTrue (fl 0x10) .nc ∧
      ¬ CondTrue (fl 0x80) .c := by
  refine ⟨rfl, rfl, rfl, rfl, rfl, rfl, rfl, rfl, rfl, rfl, ?_, ?_, ?_, ?_⟩ <;> simp [CondTrue, fl]

theorem witness_IllegalOpcodeIsRecorded : Instr.shape .illegal_d3 = .illegal 0xD3 := rfl

/-- The timer: off; on and short of a tick; on and at a tick from 0xFF and from 0xFE. -/
theorem witness_TimerCounts :
    (timed 0 0 0 0 0).timer.tac.getLsbD 2 = false ∧ (timed 0 0 0x05 0 0).timer.tac.getLsbD 2 = true ∧
      ([1024, 16, 64, 256] : List Nat)[(timed 0 0 0x05 0 0).timer.tac.toNat % 4]? = some 16 ∧
      (timed 0 0 0x05 0 0).timer.timaAcc + 15 < 16 ∧ 16 ≤ (timed 0xFF 0 0x05 0 0).timer.timaAcc + 16 ∧
      (timed 0xFF 0 0x05 0 15).timer.timaAcc + 16 < 2 * 16 ∧ (timed 0xFF 0 0x05 0 0).timer.tima = 0xFF ∧
      (timed 0xFE 0 0x05 0 0).timer.tima ≠ 0xFF := by decide

theorem witness_LcdOffAndOn :
    (State.reset.memWrite 0xFF40 0x11).ppu.lcdc.getLsbD 7 = false ∧
      let on := ((State.reset.memWrite 0xFF40 0x11).advancePpu 4).memWrite 0xFF40 0x91
      on.ppu.lcdc.getLsbD 7 = true ∧ on.ppu.lcdWasOff = true := by decide

/-- The reset machine in this mode, on this line, at this clock. -/
def inMode (m : PpuMode) (ly : Byte) (clock : Nat) : State :=
  { State.reset with ppu := { State.reset.ppu with mode := m, ly := ly, modeClock := clock } }

/-- Each clause of the mode machine with an advance of 4 cycles, at a boundary of its range. -/
theorem witness_PpuModeTransitions :
    (∀ m ly clock, (inMode m ly clock).ppu.lcdc.getLsbD 7 = true ∧ (inMode m ly clock).ppu.lcdWasOff = false) ∧
      (inMode .readOAM 0 75).ppu.modeClock + 4 < PpuMode.threshold .readOAM ∧
      80 ≤ (inMode .readOAM 0 76).ppu.modeClock + 4 ∧
      172 ≤ (inMode .readVRAM 143 168).ppu.modeClock + 4 ∧ (inMode .readVRAM 143 168).ppu.ly.toNat < 144 ∧
      204 ≤ (inMode .hBlank 142 200).ppu.modeClock + 4 ∧ (inMode .hBlank 142 200).ppu.ly ≠ 143 ∧
      (inMode .hBlank 143 200).ppu.ly = 143 ∧ 456 ≤ (inMode .vBlank 152 452).ppu.modeClock + 4 ∧
      (inMode .vBlank 152 452).ppu.ly.toNat < 153 ∧ (inMode .vBlank 153 452).ppu.ly = 153 :=
  ⟨fun _ _ _ => ⟨(by decide : (0x91#8).getLsbD 7 = true), rfl⟩, by decide⟩

theorem witness_PixelShade :
    143 < 144 ∧ 159 < 160 ∧ State.reset.ppu.lcdc.getLsbD 0 = true ∧
      (State.reset.memWrite 0xFF40 0x90).ppu.lcdc.getLsbD 0 = false := by decide

/-- The first and last address of each storage range; two addresses with different homes. -/
theorem witness_RamStoresWhatIsWritten :
    (∀ n ∈ [0x8000, 0x9FFF, 0xC000, 0xDFFF, 0xE000, 0xFDFF, 0xFE00, 0xFE9F, 0xFF01, 0xFF03, 0xFF7F, 0xFF80, 0xFFFE],
      IsStorage n) ∧
      echoHome (0xC001#16).toNat ≠ echoHome (0xE000#16).toNat ∧ 0xE000 ≤ (0xE000#16).toNat ∧
      (0xFDFF#16).toNat < 0xFE00 ∧ 0xFEA0 ≤ (0xFEA0#16).toNat ∧ (0xFEFF#16).toNat < 0xFF00 := by
  refine ⟨fun n hn => ?_, by decide⟩
  simp only [List.mem_cons, List.not_mem_nil, or_false] at hn
  unfold IsStorage
  rcases hn with rfl | rfl | rfl | rfl | rfl | rfl | rfl | rfl | rfl | rfl | rfl | rfl | rfl <;> decide

theorem witness_RomWritesAreMbcControl :
    State.reset.cart.mbcType = .mbc0 ∧ mbc1.cart.mbcType = .mbc1 ∧ (0x7FFF#16).toNat < 0x8000 ∧
      (0x1FFF#16).toNat < 0x2000 ∧ 0x2000 ≤ (0x2000#16).toNat ∧ (0x3FFF#16).toNat < 0x4000 ∧
      0x4000 ≤ (0x4000#16).toNat ∧ (0x5FFF#16).toNat < 0x6000 ∧ 0x6000 ≤ (0x6000#16).toNat := by decide

/-- The overlay at its last byte, and the two ways out of it. -/
theorem witness_RomReads :
    let s := State.load [0x11] (some [0x22])
    (s.ctl.inBios = true ∧ s.regs.pc.toNat < 0x100 ∧ (0x00FF#16).toNat < 0x100) ∧ s.cart.bios = some (Image.ofBytes [0x22]) ∧
      ¬ ((0x0100#16).toNat < 0x100) ∧ (0x3FFF#16).toNat < 0x4000 ∧ State.reset.ctl.inBios = false ∧
      0x4000 ≤ (0x4000#16).toNat ∧ (0x7FFF#16).toNat < 0x8000 := by decide

/-- Cartridge RAM that is absent, disabled, and usable, at both ends of the window. -/
theorem witness_CartridgeRam :
    State.reset.cart.ramSize = 0 ∧ mbc1.ramUsable = false ∧ (mbc1.memWrite 0x0000 0x0A).ramUsable = true ∧
      0xA000 ≤ (0xA000#16).toNat ∧ (0xBFFF#16).toNat < 0xC000 ∧
      (mbc1.memWrite 0x0000 0x0A).ramOffset 0xA000 ≠ (mbc1.memWrite 0x0000 0x0A).ramOffset 0xBFFF := by decide

theorem witness_ResetState :
    (State.load [] (some [])).cart.bios.isSome = true ∧ State.reset.cart.bios = none ∧ ioReg? 0xFF03 = none ∧
      ioReg? 0xFF7F = none := by decide

/-- A running, a paused and a paused halted CPU, each in the invariant; and the halted one waits again after the resume
(10_state.md R27; 60_exceptions.md R471). -/
theorem witness_LoadingAndHostActs_pause :
    let halted := withControl State.reset ({ · with halted := true }) 0 0
    State.reset.Inv ∧ State.reset.ctl.stopped = false ∧ State.reset.hostPause.Inv ∧
      State.reset.hostPause.ctl.stopped = true ∧ State.reset.hostPause.ctl.pausedHalted = false ∧
      halted.Inv ∧ halted.hostPause.Inv ∧ halted.hostPause.ctl.halted = false ∧
      halted.hostPause.ctl.pausedHalted = true ∧ halted.hostPause.hostResume.ctl.halted = true := by decide

/-- The first and last address of each RAM range, as an RAM cell and not anything else. -/
theorem witness_LoadingAndHostActs_ram :
    [0x8000, 0x9FFF, 0xC000, 0xDFFF, 0xFE00, 0xFE9F, 0xFF80, 0xFFFE].map (fun n => State.reset.locateNat n) =
      [.cell 0x8000, .cell 0x9FFF, .cell 0xC000, .cell 0xDFFF, .cell 0xFE00, .cell 0xFE9F, .cell 0xFF80, .cell 0xFFFE] := by
  decide

theorem witness_StepKeepsInvariant : State.reset.Inv ∧ leads State.reset State.inv = true := by decide

/-- A step with the overlay still on, a stopped step, and the step at PC = 0x0100 that ends the overlay. -/
theorem witness_StepKeepsImagesAndOutput :
    leads (State.load [] (some [0x00])) (fun t => t.ctl.inBios) = true ∧
      leads State.reset.hostPause (fun t => t.ctl.stopped) = true ∧
      leads ((State.load [0x00] (some [0x00])).setPc 0x0100) (fun t => !t.ctl.inBios) = true := by decide

end Sys2Proof.Tests
end

section
/-! PROOFS. The invariant of a run, taken apart: what it asks of the devices and what it asks of the CPU's control state.
Each part of a step keeps each half. -/

namespace Sys2Proof.Machine

/-- The half of `State.inv` about memory and the devices. -/
structure State.DevicesOk (s : State) : Prop where
  mem_wf : Memory.wf unlistedCell s.mem = true
  romBank_ne : s.mbc.romBank ≠ 0
  divAcc_lt : s.timer.divAcc < 256
  timaAcc_lt : s.timer.timaAcc < 1024
  ppu_ok : s.ppu.ok = true
  sink_onScreen : s.sink.all SinkCall.onScreen = true

/-- The half of `State.inv` about the control state `c` of a machine with the images `cart`. -/
structure Control.Ok (c : Control) (cart : Cartridge) : Prop where
  halted_apart : c.halted = true → c.stopped = false
  paused_stopped : c.pausedHalted = true → c.stopped = true
  eiDelay_ne : c.eiDelay ≠ 2
  inBios_bios : c.inBios = true → cart.bios.isSome = true
  cycles_mod : c.cycles % 4 = 0
  cycles_le : c.cycles ≤ 44

/-- The invariant is its two halves. -/
theorem inv_iff (s : State) : s.Inv ↔ s.DevicesOk ∧ s.ctl.Ok s.cart := by
  unfold State.Inv State.inv
  simp only [Bool.and_eq_true, Bool.or_eq_true, Bool.not_eq_true', ← Bool.not_eq_true,
    ← imp_iff_not_or, decide_eq_true_eq]
  constructor
  · rintro ⟨⟨⟨⟨⟨⟨⟨⟨⟨⟨⟨hmem, hbank⟩, hdiv⟩, htima⟩, hppu⟩, hsink⟩, hrun⟩, hpause⟩, hei⟩, hbios⟩, hmod⟩, hle⟩
    exact ⟨⟨hmem, hbank, hdiv, htima, hppu, hsink⟩, ⟨by simpa using hrun, hpause, hei, hbios, hmod, hle⟩⟩
  · rintro ⟨⟨hmem, hbank, hdiv, htima, hppu, hsink⟩, ⟨hrun, hpause, hei, hbios, hmod, hle⟩⟩
    exact ⟨⟨⟨⟨⟨⟨⟨⟨⟨⟨⟨hmem, hbank⟩, hdiv⟩, htima⟩, hppu⟩, hsink⟩, by simpa using hrun⟩, hpause⟩, hei⟩, hbios⟩, hmod⟩, hle⟩

/-! ## The PPU -/

/-- `Ppu.lineOk`, mode by mode: at most line 153, and at most line 143 outside vBlank. -/
theorem Ppu.lineOk_iff (p : Ppu) :
    p.lineOk = true ↔ p.ly.toNat ≤ 153 ∧ (p.mode ≠ .vBlank → p.ly.toNat ≤ 143) := by
  unfold Ppu.lineOk
  cases p.mode <;> simp <;> omega

theorem Ppu.ok_iff (p : Ppu) : p.ok = true ↔ p.modeClock < p.mode.threshold ∧ p.lineOk = true ∧
    (p.lcdWasOff = true → p.ly = 0 ∧ p.modeClock = 0 ∧ p.mode = .vBlank) := by
  unfold Ppu.ok
  cases p.lcdWasOff <;> simp [and_assoc]

@[simp] theorem renderLine_ppu (s : State) : s.renderLine.ppu = s.ppu := by
  unfold State.renderLine; dsimp only; split <;> rfl

/-- The pixels of a rendered line lie on the screen (60_exceptions.md R465). -/
theorem renderLine_onScreen {s : State} (h : s.sink.all SinkCall.onScreen = true) :
    s.renderLine.sink.all SinkCall.onScreen = true := by
  unfold State.renderLine
  dsimp only
  split
  · rename_i hly
    simpa [h, SinkCall.onScreen] using fun _ hx => ⟨hx, hly⟩
  · exact h

/-- A transition keeps the line in its mode's range (60_exceptions.md R454 to R457). -/
theorem transition_lineOk {s : State} (h : s.ppu.lineOk = true) : s.transition.ppu.lineOk = true := by
  rw [Ppu.lineOk_iff] at h
  obtain ⟨hle, hlow⟩ := h
  unfold State.transition
  split
  case h_1 hm | h_2 hm =>
    have hlow := hlow (by rw [hm]; decide)
    simp [Ppu.lineOk_iff, enterMode_eq, hle, hlow]
  case h_3 hm =>
    have hlow := hlow (by rw [hm]; decide)
    dsimp only
    split
    all_goals
      rename_i hly
      simp only [State.setLy_ppu] at hly
      simp [Ppu.lineOk_iff, enterMode_eq]
      bv_omega
  case h_4 hm =>
    dsimp only
    split
    · simp [Ppu.lineOk_iff, enterMode_eq]
    · rename_i hly
      simp only [State.setLy_ppu] at hly
      simp only [Ppu.lineOk_iff, State.setLy_ppu, hm]
      exact ⟨by omega, fun h => absurd rfl h⟩

/-- A transition calls the sink with pixels of the screen only. -/
theorem transition_onScreen {s : State} (h : s.sink.all SinkCall.onScreen = true) :
    s.transition.sink.all SinkCall.onScreen = true := by
  unfold State.transition
  split
  · simpa [enterMode_eq] using h
  · simpa [enterMode_eq] using renderLine_onScreen h
  · dsimp only
    split <;> simpa [enterMode_eq, SinkCall.onScreen] using h
  · dsimp only
    split <;> simpa [enterMode_eq] using h

/-- What every turn of the loop keeps, the loop keeps. -/
theorem modeLoop_keeps {P : State → Prop} (hP : ∀ s clock, P s → P (s.setModeClock clock).transition) (n : Nat)
    {s : State} (h : P s) : P (State.modeLoop n s) := by
  induction n generalizing s with
  | zero => exact h
  | succ n ih =>
    rw [State.modeLoop]
    split
    · exact h
    · exact ih (hP s _ h)

/-- The bound on the turns is never what ends the loop (60_exceptions.md R453): the clock ends below its threshold. -/
theorem modeLoop_modeClock_lt (n : Nat) {s : State} (h : s.ppu.modeClock < 80 * (n + 1)) :
    (State.modeLoop n s).ppu.modeClock < (State.modeLoop n s).ppu.mode.threshold := by
  induction n generalizing s with
  | zero =>
    have := s.ppu.mode.le_threshold
    rw [State.modeLoop]
    omega
  | succ n ih =>
    rw [State.modeLoop]
    split
    · assumption
    · refine ih ?_
      obtain ⟨m, ly, f, calls, e⟩ := transition_frame (s.setModeClock (s.ppu.modeClock - s.ppu.mode.threshold))
      have := s.ppu.mode.le_threshold
      rw [e]
      simp only [State.setModeClock_ppu]
      omega

/-- A restart of the LCD leaves `lcdWasOff` clear and the line in its mode's range (60_exceptions.md R452). -/
theorem lcdRestart_ok {s : State} (h : s.ppu.ok = true) :
    s.lcdRestart.ppu.lineOk = true ∧ s.lcdRestart.ppu.lcdWasOff = false := by
  obtain ⟨_, hline, hoff⟩ := s.ppu.ok_iff.mp h
  unfold State.lcdRestart
  split
  · rename_i hw
    obtain ⟨hly, _, _⟩ := hoff hw
    simp [enterMode_eq, Ppu.lineOk_iff, hly]
  · rename_i hw
    exact ⟨hline, by simpa using hw⟩

/-- An advance of the PPU keeps its clock and line in range. -/
theorem advancePpu_ok {s : State} (c : Nat) (h : s.ppu.ok = true) : (s.advancePpu c).ppu.ok = true := by
  unfold State.advancePpu
  split
  · obtain ⟨hline, hoff⟩ := lcdRestart_ok h
    dsimp only
    generalize hfed : s.lcdRestart.setModeClock (s.lcdRestart.ppu.modeClock + c) = fed
    have hclock := modeLoop_modeClock_lt (fed.ppu.modeClock / 80) (s := fed) (by omega)
    have hloop := modeLoop_keeps (P := fun u => u.ppu.lineOk = true) (fun _ _ hu => transition_lineOk hu)
      (fed.ppu.modeClock / 80) (s := fed) (by rw [← hfed]; exact hline)
    obtain ⟨m, ly, mc, f, calls, e⟩ := modeLoop_frame (fed.ppu.modeClock / 80) fed
    have hwas : (State.modeLoop (fed.ppu.modeClock / 80) fed).ppu.lcdWasOff = false := by
      rw [e, ← hfed]; exact hoff
    rw [coincidenceCheck_eq, Ppu.ok_iff]
    exact ⟨hclock, hloop, by simp [hwas]⟩
  · rfl

/-- An advance of the PPU calls the sink with pixels of the screen only. -/
theorem advancePpu_onScreen {s : State} (c : Nat) (h : s.sink.all SinkCall.onScreen = true) :
    (s.advancePpu c).sink.all SinkCall.onScreen = true := by
  unfold State.advancePpu
  split
  · rw [coincidenceCheck_eq]
    refine modeLoop_keeps (P := fun u => u.sink.all SinkCall.onScreen = true) (fun _ _ hu => transition_onScreen hu) _ ?_
    obtain ⟨p, f, e⟩ := lcdRestart_frame s
    rw [e]
    exact h
  · exact h

/-! ## The devices -/

namespace State.DevicesOk

variable {s : State}

theorem memWrite (h : s.DevicesOk) (a : Word) (v : Byte) : (s.memWrite a v).DevicesOk := by
  obtain ⟨hmem, hbank, hdiv, htima, hppu⟩ := memWrite_keeps s a v
  exact ⟨hmem h.mem_wf, hbank h.romBank_ne, hdiv h.divAcc_lt, htima ▸ h.timaAcc_lt, hppu h.ppu_ok,
    by simpa using h.sink_onScreen⟩

theorem advanceTimer (h : s.DevicesOk) (c : Nat) : (s.advanceTimer c).DevicesOk := by
  obtain ⟨t, f, e⟩ := advanceTimer_frame s c
  have ht : t.divAcc < 256 ∧ t.timaAcc < 1024 := by
    rw [show t = (s.advanceTimer c).timer by rw [e], advanceTimer_eq]
    split
    · exact ⟨Nat.mod_lt _ (by decide), (Nat.mod_lt _ s.timer.period_pos.1).trans_le s.timer.period_pos.2⟩
    · exact ⟨Nat.mod_lt _ (by decide), h.timaAcc_lt⟩
  rw [e]
  exact { h with divAcc_lt := ht.1, timaAcc_lt := ht.2 }

theorem advancePpu (h : s.DevicesOk) (c : Nat) : (s.advancePpu c).DevicesOk := by
  have hppu := advancePpu_ok c h.ppu_ok
  have hsink := advancePpu_onScreen c h.sink_onScreen
  obtain ⟨p, f, calls, e⟩ := advancePpu_frame s c
  rw [e] at hppu hsink ⊢
  exact { h with ppu_ok := hppu, sink_onScreen := hsink }

theorem advance (h : s.DevicesOk) (c : Nat) : (s.advance c).DevicesOk := (h.advanceTimer c).advancePpu c

theorem took (h : s.DevicesOk) (n : Nat) : (s.took n).DevicesOk := { h with }

theorem takeInterrupt (h : s.DevicesOk) (i : Source) : (s.takeInterrupt i).DevicesOk := by
  rw [takeInterrupt_eq]
  have hacked : State.DevicesOk { s with irq := { s.irq with iflag := s.irq.iflag &&& ~~~i.mask } } := { h with }
  exact { (hacked.memWrite _ _).memWrite _ _ with }

theorem serveInterrupt (h : s.DevicesOk) : s.serveInterrupt.DevicesOk := by
  unfold State.serveInterrupt
  split
  · split
    · exact ((h.takeInterrupt _).took _).advance _
    · exact h
  · exact h

theorem finishStep (h : s.DevicesOk) : s.finishStep.DevicesOk := (h.advance _).serveInterrupt

theorem exec (h : s.DevicesOk) {i : Instr} {t : State} (he : exec i s = .next t) : t.DevicesOk := by
  cases exec_effect he with
  | registers => exact { h with }
  | store a v => exact { h.memWrite a v with }
  | storeTwo a b v w => exact { (h.memWrite a v).memWrite b w with }
  | control => exact { h with }

theorem endInstruction (h : s.DevicesOk) : s.endInstruction.DevicesOk := by
  unfold State.endInstruction
  split
  · exact h
  · obtain ⟨c, e, _⟩ := eiUpdate_cases s
    rw [e]
    exact State.DevicesOk.finishStep { h with }

end State.DevicesOk

/-! ## The control state -/

/-- The tail of a step keeps the control state, with the 20 cycles of an interrupt entry on top of at most 24. -/
theorem Control.Ok.finishStep {s : State} (h : s.ctl.Ok s.cart) (hc : s.ctl.cycles ≤ 24) :
    s.finishStep.ctl.Ok s.finishStep.cart := by
  obtain ⟨⟨hcart, _, _⟩, hctl⟩ := finishStep_cases s
  rw [hcart]
  rcases hctl with e | ⟨_, e⟩ <;> rw [e]
  · exact h
  · have hmod := h.cycles_mod
    exact { h with halted_apart := nofun, cycles_mod := by dsimp only; omega, cycles_le := by dsimp only; omega }

/-- Line 2 of a step keeps both halves. -/
theorem leaveBios_ok {s : State} (hd : s.DevicesOk) (hc : s.ctl.Ok s.cart) :
    s.leaveBios.DevicesOk ∧ s.leaveBios.ctl.Ok s.leaveBios.cart := by
  obtain ⟨b, e, hb⟩ := leaveBios_cases s
  rw [e]
  exact ⟨{ hd with }, { hc with inBios_bios := fun h => hc.inBios_bios (hb h).1 }⟩

/-- The counts of a step that serves no interrupt fit the control state's half. -/
theorem Control.Ok.took {c : Control} {cart : Cartridge} {n : Nat} (h : c.Ok cart) (hmod : n % 4 = 0) (hle : n ≤ 24) :
    Control.Ok { c with cycles := n } cart :=
  { h with cycles_mod := hmod, cycles_le := hle.trans (by decide) }

/-- What an instruction's effect on a running CPU's control state keeps of its half: all but the EI counter, which EI sets to
2 for line 5 to run down; an illegal opcode, after which line 5 does not run, leaves the counter alone. -/
theorem ControlEffect.ok {i : Instr} {s : State} {c : Control} (heff : ControlEffect i s c) (hc : s.ctl.Ok s.cart)
    (hh : s.ctl.halted = false) (hs : s.ctl.stopped = false) (hf : s.ctl.fault = none) :
    Control.Ok { c with eiDelay := 0 } s.cart ∧ c.cycles ≤ 24 ∧ (c.fault.isSome = true → c.eiDelay ≠ 2) := by
  have hrun : Control.Ok { s.ctl with eiDelay := 0 } s.cart := { hc with eiDelay_ne := by simp }
  cases heff with
  | halt => exact ⟨{ hrun.took (n := 4) rfl (by decide) with halted_apart := fun _ => hs }, by simp, by simp [hf]⟩
  | stop =>
    exact ⟨{ hrun.took (n := 4) rfl (by decide) with halted_apart := by simp [hh], paused_stopped := fun _ => rfl },
      by simp, by simp [hf]⟩
  | di | ei => exact ⟨{ hrun.took (n := 4) rfl (by decide) with }, by simp, by simp [hf]⟩
  | reti => exact ⟨{ hrun.took (n := 16) rfl (by decide) with }, by simp, by simp [hf]⟩
  | illegal => exact ⟨{ hrun.took (n := 0) rfl (by decide) with }, by simp, fun _ => hc.eiDelay_ne⟩

/-- What `ControlEffect.ok` says of an effect holds of every instruction of a running CPU. -/
theorem exec_ctl_ok {i : Instr} {s t : State} (hc : s.ctl.Ok s.cart) (hh : s.ctl.halted = false)
    (hs : s.ctl.stopped = false) (hf : s.ctl.fault = none) (he : exec i s = .next t) :
    Control.Ok { t.ctl with eiDelay := 0 } t.cart ∧ t.ctl.cycles ≤ 24 ∧
      (t.ctl.fault.isSome = true → t.ctl.eiDelay ≠ 2) := by
  obtain ⟨hcart, _, _, _, ⟨n, ⟨hmod, _, hle⟩, hctl⟩ | heff⟩ := exec_control he <;> rw [hcart]
  · rw [hctl]
    exact ⟨{ hc.took hmod hle with eiDelay_ne := by simp }, hle, fun _ => hc.eiDelay_ne⟩
  · exact heff.ok hc hh hs hf

/-- What follows an instruction restores the control state's half in full: line 5 leaves the EI counter at most 1. -/
theorem endInstruction_ctl_ok {s : State} (hc : Control.Ok { s.ctl with eiDelay := 0 } s.cart)
    (hle : s.ctl.cycles ≤ 24) (hf : s.ctl.fault.isSome = true → s.ctl.eiDelay ≠ 2) :
    s.endInstruction.ctl.Ok s.endInstruction.cart := by
  unfold State.endInstruction
  split
  · rename_i hfault
    exact { hc with eiDelay_ne := hf hfault }
  · obtain ⟨c, e, hcycles, _, hhalted, hstopped, hinBios, hpaused, hei, _⟩ := eiUpdate_cases s
    rw [e]
    obtain ⟨apart, paused, _, bios, hmod, hmax⟩ := hc
    rw [← hhalted, ← hstopped] at apart
    rw [← hpaused, ← hstopped] at paused
    rw [← hinBios] at bios
    rw [← hcycles] at hmod hmax hle
    exact Control.Ok.finishStep (s := { s with ctl := c, hostDraw := s.hostDraw + 1 })
      ⟨apart, paused, hei, bios, hmod, hmax⟩ hle

/-! ## The step -/

/-- A halted grant keeps the invariant. -/
theorem haltedStep_inv {s : State} (hd : s.DevicesOk) (hc : s.ctl.Ok s.cart) : s.haltedStep.Inv :=
  (inv_iff _).mpr ⟨(hd.took 4).finishStep,
    Control.Ok.finishStep (s := s.took 4) (hc.took (n := 4) rfl (by decide)) (by simp)⟩

/-- An instruction of a running CPU, with the lines after it, keeps the invariant. -/
theorem exec_endInstruction_inv {i : Instr} {s t : State} (hd : s.DevicesOk) (hc : s.ctl.Ok s.cart)
    (hh : s.ctl.halted = false) (hs : s.ctl.stopped = false) (hf : s.ctl.fault = none) (he : exec i s = .next t) :
    t.endInstruction.Inv := by
  obtain ⟨hok, hle, hfault⟩ := exec_ctl_ok hc hh hs hf he
  exact (inv_iff _).mpr ⟨(hd.exec he).endInstruction, endInstruction_ctl_ok hok hle hfault⟩

/-- Settles O59: each of the three shapes of a step (stopped, a halted grant, an instruction) keeps both halves of the
invariant. -/
theorem stepKeepsInvariant : Obligations.StepKeepsInvariant := by
  intro s t hinv hstep
  obtain ⟨hd, hc⟩ := (inv_iff s).mp hinv
  obtain ⟨hbd, hbc⟩ := leaveBios_ok hd hc
  obtain ⟨hf, ⟨_, rfl⟩ | ⟨_, _, rfl⟩ | ⟨hs, _, i, pc, u, _, he, rfl⟩⟩ := step_cases hstep
  · exact (inv_iff _).mpr ⟨hd.took 0, hc.took (n := 0) rfl (by decide)⟩
  · exact haltedStep_inv hbd hbc
  · obtain ⟨b, e, _⟩ := leaveBios_cases s
    refine exec_endInstruction_inv ?_ ?_ rfl ?_ ?_ he
    · exact { hbd with }
    · exact { hbc with halted_apart := fun h => absurd h Bool.false_ne_true }
    · rw [e]; exact hs
    · rw [e]; exact hf

end Sys2Proof.Machine
end

section
/-! PROOFS. What can set IME, traced back through the parts of a step. -/

namespace Sys2Proof.Machine

/-- RETI is the only instruction of its shape. -/
theorem eq_reti_of_shape {i : Instr} (h : i.shape = .reti) : i = .reti := by
  cases i <;> cases h; rfl

/-- IME, or an EI counter about to run out, was there before an instruction that is not RETI. -/
theorem ime_or_eiDelay_of_exec {i : Instr} {s t : State} (he : exec i s = .next t)
    (ht : t.ctl.ime = true ∨ t.ctl.eiDelay = 1) : s.ctl.ime = true ∨ s.ctl.eiDelay = 1 ∨ i = .reti := by
  obtain ⟨_, _, _, _, hctl⟩ := exec_control he
  generalize t.ctl = c at hctl ht
  rcases hctl with ⟨n, _, rfl⟩ | heff
  · exact ht.imp_right .inl
  · cases heff
    case reti h => exact .inr (.inr (eq_reti_of_shape h))
    case di => simp at ht
    case ei => exact .inl (by simpa using ht)
    all_goals exact ht.imp_right .inl

/-- The tail of a step never sets IME. -/
theorem ime_of_finishStep {s : State} (h : s.finishStep.ctl.ime = true) : s.ctl.ime = true := by
  obtain ⟨_, e | ⟨hi, _⟩⟩ := finishStep_cases s
  · rwa [e] at h
  · exact hi

/-- After an instruction, IME is as it left it or set because EI's delay ran out (60_exceptions.md R414). -/
theorem ime_or_eiDelay_of_endInstruction {s : State} (h : s.endInstruction.ctl.ime = true) :
    s.ctl.ime = true ∨ s.ctl.eiDelay = 1 := by
  unfold State.endInstruction at h
  split at h
  · exact .inl h
  · obtain ⟨c, e, _, _, _, _, _, _, _, hime⟩ := eiUpdate_cases s
    have htail := ime_of_finishStep h
    rw [e] at htail
    exact hime htail

/-- Settles O12: IME 1 at the end of a step is traced back through the tail, line 5 and the instruction. -/
theorem onlyEiAndRetiEnableInterrupts : Obligations.OnlyEiAndRetiEnableInterrupts := by
  intro s t hstep hs ht
  obtain ⟨b, e, _⟩ := leaveBios_cases s
  obtain ⟨_, ⟨_, rfl⟩ | ⟨_, _, rfl⟩ | ⟨_, _, i, pc, u, hfetch, he, rfl⟩⟩ := step_cases hstep
  · exact absurd (hs.symm.trans ht) (by decide)
  · have himeTail := ime_of_finishStep ht
    rw [e] at himeTail
    exact absurd (hs.symm.trans himeTail) (by decide)
  · rw [e] at he
    rcases ime_or_eiDelay_of_exec he (ime_or_eiDelay_of_endInstruction ht) with hime | hei | rfl
    · exact absurd (hs.symm.trans hime) (by decide)
    · exact .inl hei
    · exact .inr hfetch

end Sys2Proof.Machine
end

section
/-! PROOFS. The state after a reset. -/

namespace Sys2Proof.Machine

/-- After a reset every plain I/O cell reads 0x00 (10_state.md R37). -/
theorem resetWith_plainCell (cart : Cartridge) (ramDraw hostDraw : Nat) {a : Word} (h : 0xFF00 ≤ a.toNat)
    (h' : a.toNat < 0xFF80) (hr : ioReg? a.toNat = none) : (State.resetWith cart ramDraw hostDraw).memRead a = 0x00 := by
  unfold State.memRead State.locate
  rw [State.locateNat_window _ h (by omega), hr]
  simp [State.readTarget, State.cell, State.resetWith, Memory.read, Memory.lookup, unlistedCell, h, h']

/-- Settles O56: the registers are read at their addresses; what differs between the two boot modes is read off the images. -/
theorem resetState : Obligations.ResetState := by
  intro cart ramDraw hostDraw
  have joypad : ∀ low : BitVec 4, (3#2 ++ 0#2 ++ low : Byte) &&& 0xF0 = 0xC0 := by decide
  have iflag : (7#3 ++ 0#5 : Byte) = 0xE0 := by decide
  have ie : (0#3 ++ 0#5 : Byte) = 0x00 := by decide
  have stat : (1#1 ++ 0#4 ++ BitVec.ofBool false ++ 2#2 : Byte) = 0x82 := by decide
  refine ⟨fun hbios => ?_, fun hbios => ?_, rfl, rfl, rfl, rfl, rfl, ?_, iflag, stat, joypad _,
    fun a h h' hr => resetWith_plainCell cart ramDraw hostDraw h h' hr, rfl, rfl, rfl, rfl, rfl, rfl, rfl⟩
  · obtain ⟨rom, bios⟩ := cart
    obtain ⟨img, rfl⟩ := Option.isSome_iff_exists.mp hbios
    exact ⟨rfl, rfl, rfl, rfl⟩
  · obtain ⟨rom, bios⟩ := cart
    subst hbios
    exact ⟨rfl, rfl, rfl, rfl⟩
  · simp only [List.forall_mem_cons]
    exact ⟨rfl, rfl, rfl, rfl, rfl, rfl, rfl, rfl, rfl, rfl, rfl, rfl, ie, nofun⟩

end Sys2Proof.Machine
end

section
/-! PROOFS. The bus, region by region (20_memory.md R70): the storage cells, the echo, ROM, the MBC's control registers,
cartridge RAM. -/

namespace Sys2Proof.Machine

/-! ## Storage cells -/

theorem IsStorage.ge {n : Nat} (h : IsStorage n) : 0x8000 ≤ n := by unfold IsStorage at h; omega

/-- Addresses with different homes select different storage if one of them is a storage address. -/
theorem State.locate_ne_of_home_ne (s : State) {a b : Word} (ha : IsStorage a.toNat)
    (hne : echoHome b.toNat ≠ echoHome a.toNat) : s.locate b ≠ s.locate a := by
  rw [s.locate_storage ha]
  intro hb
  rcases State.cell_of_locate hb with hhome | hcart
  · exact hne hhome.symm
  · have := a.isLt
    unfold echoHome cartRamBase at hcart
    split at hcart <;> omega

/-- Addresses that select the same storage read the same. -/
theorem State.memRead_eq_of_locate_eq {s : State} {a b : Word} (h : s.locate a = s.locate b) :
    s.memRead a = s.memRead b := by
  rw [State.memRead, h, ← State.memRead]

/-- Addresses at or above 0x8000 that select the same storage are written the same. -/
theorem State.memWrite_eq_of_locate_eq {s : State} {a b : Word} (v : Byte) (ha : 0x8000 ≤ a.toNat)
    (hb : 0x8000 ≤ b.toNat) (h : s.locate a = s.locate b) : s.memWrite a v = s.memWrite b v := by
  rw [s.memWrite_of_ge v ha, s.memWrite_of_ge v hb, h]

/-- An address that nothing serves reads `openBusValue` and takes no write (20_memory.md R82, R96). -/
theorem State.openBus_access {s : State} {a : Word} (h : 0x8000 ≤ a.toNat) (hl : s.locate a = .openBus) :
    s.memRead a = 0xFF ∧ ∀ v, s.memWrite a v = s :=
  ⟨by rw [State.memRead, hl]; rfl, fun v => by rw [s.memWrite_of_ge v h, hl]; rfl⟩

/-- Echo RAM selects work RAM 0x2000 lower (20_memory.md R94). -/
theorem State.locate_echo (s : State) {a : Word} (h : 0xE000 ≤ a.toNat) (h' : a.toNat < 0xFE00) :
    s.locate a = s.locate (a - 0x2000) := by
  have hlow : (a - 0x2000).toNat = a.toNat - 0x2000 := BitVec.toNat_sub_of_le (BitVec.le_def.mpr (by simp; omega))
  rw [s.locate_storage (a := a) (by unfold IsStorage; omega),
    s.locate_storage (a := a - 0x2000) (by unfold IsStorage; omega), hlow]
  unfold echoHome
  rw [if_pos ⟨h, h'⟩, if_neg (by omega)]

theorem State.locate_unmapped (s : State) {a : Word} (h : 0xFEA0 ≤ a.toNat) (h' : a.toNat < 0xFF00) :
    s.locate a = .openBus := by
  rw [State.locate, State.locateNat]
  iterate 7 rw [if_neg (by omega)]
  rw [if_pos h']

/-- Settles O51: a storage address selects the cell of its home, and no address with another home selects that cell. -/
theorem ramStoresWhatIsWritten : Obligations.RamStoresWhatIsWritten := by
  refine ⟨fun s a v ha => ⟨?_, fun b hne => ?_⟩, fun s a v h h' => ?_, fun s a v h h' => ?_⟩
  · exact s.memRead_memWrite_same v ha.ge (s.locate_storage ha)
  · exact s.memRead_memWrite_of_ne v ha.ge (s.locate_ne_of_home_ne ha hne)
  · have hlow : 0x8000 ≤ (a - 0x2000).toNat := by bv_omega
    exact ⟨State.memRead_eq_of_locate_eq (s.locate_echo h h'),
      State.memWrite_eq_of_locate_eq v (by omega) hlow (s.locate_echo h h')⟩
  · obtain ⟨hread, hwrite⟩ := State.openBus_access (by omega) (s.locate_unmapped h h')
    exact ⟨hread, hwrite v⟩

/-! ## The MBC's control registers -/

theorem enableNibble_iff (v : Byte) : v &&& 0x0F = 0x0A ↔ v.toNat % 16 = 0x0A := by revert v; decide

theorem setWidth_five_eq_zero_iff (v : Byte) : v.setWidth 5 = 0 ↔ v.toNat % 32 = 0 := by revert v; decide

theorem getLsbD_zero_eq (v : Byte) : v.getLsbD 0 = decide (v.toNat % 2 = 1) := Nat.testBit_zero _

/-- `Mbc.control` by the four ranges, with the rules' arithmetic on the byte written (20_memory.md R88 to R91). -/
theorem Mbc.control_eq (m : Mbc) (n : Nat) (v : Byte) : m.control n v =
    if n < 0x2000 then { m with ramEnable := decide (v.toNat % 16 = 0x0A) }
    else if n < 0x4000 then { m with romBank := if v.toNat % 32 = 0 then 1 else BitVec.ofNat 5 v.toNat }
    else if n < 0x6000 then { m with ramBank := BitVec.ofNat 2 v.toNat }
    else { m with bankingMode := decide (v.toNat % 2 = 1) } := by
  simp only [Mbc.control, enableNibble_iff, setWidth_five_eq_zero_iff, getLsbD_zero_eq, BitVec.ofNat_toNat]

/-- Settles O52: a control write changes one register, the one of its address's range. -/
theorem romWritesAreMbcControl : Obligations.RomWritesAreMbcControl := by
  intro s a v ha
  rcases s.memWrite_control v ha with ⟨hm, hw⟩ | ⟨hm, hw⟩
  · exact ⟨fun _ => hw, fun h => absurd (hm.symm.trans h) (by decide)⟩
  · refine ⟨fun h => absurd (hm.symm.trans h) (by decide), fun _ => ⟨_, hw, ?_⟩⟩
    rw [Mbc.control_eq]
    refine ⟨fun h => ?_, fun h h' => ?_, fun h h' => ?_, fun h => ?_⟩
    · rw [if_pos h]
    · rw [if_neg (by omega), if_pos h']
    · rw [if_neg (by omega), if_neg (by omega), if_pos h']
    · rw [if_neg (by omega), if_neg (by omega), if_neg (by omega)]

/-! ## ROM and the BIOS overlay -/

theorem State.overlaid_iff (s : State) (n : Nat) :
    s.overlaid n = true ↔ s.ctl.inBios = true ∧ s.regs.pc.toNat < 0x100 ∧ n < 0x100 := by
  simp [State.overlaid, and_assoc]

/-- The bank behind 0x0000-0x3FFF as one condition (20_memory.md R78, R92). -/
theorem State.lowBank_eq (s : State) : s.lowBank =
    if s.cart.mbcType = .mbc1 ∧ s.mbc.bankingMode = true then 32 * s.mbc.ramBank.toNat else 0 := by
  rw [ite_and, Nat.mul_comm]
  rfl

theorem State.highBank_eq (s : State) : s.highBank =
    if s.cart.mbcType = .mbc1 then 32 * s.mbc.ramBank.toNat + s.mbc.romBank.toNat else 1 := by
  rw [Nat.mul_comm]
  rfl

/-- Below 0x4000 an address selects a BIOS byte under the overlay and a byte of the low bank otherwise. -/
theorem State.locate_low (s : State) {a : Word} (h : a.toNat < 0x4000) :
    s.locate a = if s.overlaid a.toNat then .bios a.toNat else .rom (s.cart.romOffset s.lowBank a.toNat) := by
  rw [State.locate, State.locateNat, if_pos h]

theorem State.locate_high (s : State) {a : Word} (h : 0x4000 ≤ a.toNat) (h' : a.toNat < 0x8000) :
    s.locate a = .rom (s.cart.romOffset s.highBank (a.toNat - 0x4000)) := by
  rw [State.locate, State.locateNat, if_neg (by omega), if_pos h']

/-- Settles O53: which image and which bank an address below 0x8000 selects. -/
theorem romReads : Obligations.RomReads := by
  intro s a
  dsimp only
  rw [← s.overlaid_iff, ← s.lowBank_eq, ← s.highBank_eq]
  refine ⟨fun hov bios hbios => ?_, fun hov h => ?_, fun h h' => ?_⟩
  · have h : a.toNat < 0x100 := ((s.overlaid_iff _).mp hov).2.2
    rw [State.memRead, s.locate_low (by omega), if_pos hov, State.readTarget, hbios]
    rfl
  · rw [State.memRead, s.locate_low h, if_neg hov]
    rfl
  · rw [State.memRead, s.locate_high h h']
    rfl

/-! ## Cartridge RAM -/

theorem Cartridge.mbcType_eq_mbc1_iff (c : Cartridge) :
    c.mbcType = .mbc1 ↔ c.headerByte 0x147 ∈ ([0x01, 0x02, 0x03] : List Byte) := by
  simp only [Cartridge.mbcType, List.mem_cons, List.not_mem_nil, or_false]
  split
  · exact iff_of_true rfl ‹_›
  · exact iff_of_false nofun ‹_›

theorem State.ramUsable_iff (s : State) :
    s.ramUsable = true ↔ 0 < s.cart.ramSize ∧ (s.cart.mbcType = .mbc1 → s.mbc.ramEnable = true) := by
  unfold State.ramUsable
  cases s.cart.mbcType <;> simp

/-- The cartridge RAM offset with its bank as one condition (20_memory.md R82, R93). -/
theorem State.ramOffset_eq (s : State) (n : Nat) : s.ramOffset n =
    ((if s.cart.mbcType = .mbc1 ∧ s.mbc.bankingMode = true then s.mbc.ramBank.toNat else 0) * 0x2000 + (n - 0xA000)) %
      s.cart.ramSize := by
  rw [ite_and]
  rfl

theorem State.locate_cartRam (s : State) {a : Word} (h : 0xA000 ≤ a.toNat) (h' : a.toNat < 0xC000) :
    s.locate a = if s.ramUsable then .cell (cartRamBase + s.ramOffset a.toNat) else .openBus := by
  rw [State.locate, State.locateNat, if_neg (by omega), if_neg (by omega), if_neg (by omega), if_pos h']

/-- Usable cartridge RAM is one cell for each offset. -/
theorem State.locate_cartRam_eq_iff {s : State} (hu : s.ramUsable = true) {a b : Word} (ha : 0xA000 ≤ a.toNat)
    (ha' : a.toNat < 0xC000) (hb : 0xA000 ≤ b.toNat) (hb' : b.toNat < 0xC000) :
    s.locate b = s.locate a ↔ s.ramOffset b.toNat = s.ramOffset a.toNat := by
  rw [s.locate_cartRam ha ha', s.locate_cartRam hb hb', if_pos hu, if_pos hu, Target.cell.injEq, Nat.add_right_inj]

/-- Settles O54: unusable cartridge RAM is open bus; usable, its addresses select one cell for each offset. -/
theorem cartridgeRam : Obligations.CartridgeRam := by
  intro s a h h'
  have hge : 0x8000 ≤ a.toNat := by omega
  dsimp only
  rw [s.cart.ramSize_eq]
  simp only [← s.cart.mbcType_eq_mbc1_iff, ← s.ramUsable_iff, ← s.ramOffset_eq]
  refine ⟨fun hu => ?_, fun hu v => ?_⟩
  · exact State.openBus_access hge ((s.locate_cartRam h h').trans (if_neg hu))
  · have hsame : (s.memWrite a v).memRead a = v :=
      s.memRead_memWrite_same v hge ((s.locate_cartRam h h').trans (if_pos hu))
    refine ⟨hsame, fun b hb hb' => ⟨fun heq => ?_, fun hne => ?_⟩⟩
    · have hloc : (s.memWrite a v).locate b = (s.memWrite a v).locate a := by
        rw [s.locate_memWrite b v hge, s.locate_memWrite a v hge]
        exact (State.locate_cartRam_eq_iff hu h h' hb hb').mpr heq
      rw [State.memRead_eq_of_locate_eq hloc, hsame]
    · rw [Ne, ← State.locate_cartRam_eq_iff hu h h' hb hb'] at hne
      exact s.memRead_memWrite_of_ne v hge hne

end Sys2Proof.Machine
end

section
/-! PROOFS. The registers of the I/O window and IE (20_memory.md R98 to R104). -/

namespace Sys2Proof.Machine

/-! ## Registers that are cells of their own -/

/-- IE has no address in the I/O window. -/
theorem ioReg?_ne_ie (n : Nat) : ioReg? n ≠ some .ie := by
  unfold ioReg?
  split <;> nofun

/-- A register of the I/O window is read back at its address as the register itself gives it. -/
theorem State.memRead_memWrite_register (s : State) {a : Word} {r : IoReg} (v : Byte) (h : 0xFF00 ≤ a.toNat)
    (h1 : a ≠ 0xFFFF) (hr : ioReg? a.toNat = some r) : (s.memWrite a v).memRead a = (s.writeReg r v).readReg r := by
  have hge : 0x8000 ≤ a.toNat := by omega
  rw [State.memRead, s.locate_memWrite a v hge, s.memWrite_of_ge v hge, s.locate_register h h1 hr]
  rfl

/-- Only its own address selects a register of the I/O window, so a write there changes no other read. -/
theorem State.memRead_memWrite_register_of_ne (s : State) {a b : Word} {r : IoReg} (v : Byte) (h : 0xFF00 ≤ a.toNat)
    (h1 : a ≠ 0xFFFF) (hr : ioReg? a.toNat = some r) (hne : b ≠ a) : (s.memWrite a v).memRead b = s.memRead b := by
  refine s.memRead_memWrite_of_ne v (by omega) ?_
  rw [s.locate_register h h1 hr]
  intro hb
  rcases State.register_of_locate hb with ⟨_, rfl⟩ | hb
  · exact ioReg?_ne_ie _ hr
  · exact hne (BitVec.eq_of_toNat_eq (ioReg?_injective hb hr))

/-- The registers that keep every bit written (20_memory.md R99, R103). -/
def IoReg.plain : IoReg → Bool
  | .tima | .tma | .tac | .lcdc | .scy | .scx | .lyc | .bgp | .obp0 | .obp1 | .wy | .wx => true
  | _ => false

theorem State.readReg_writeReg_plain (s : State) {r : IoReg} (v : Byte) (h : r.plain = true) :
    (s.writeReg r v).readReg r = v := by
  cases r <;> cases h <;> rfl

/-- The addresses of the plain registers. -/
def plainRegisters : List Word :=
  [0xFF05, 0xFF06, 0xFF07, 0xFF40, 0xFF42, 0xFF43, 0xFF45, 0xFF47, 0xFF48, 0xFF49, 0xFF4A, 0xFF4B]

theorem plainRegisters_range : ∀ a ∈ plainRegisters, 0xFF00 ≤ a.toNat ∧ a ≠ 0xFFFF := by
  simp [plainRegisters]

theorem plain_of_mem_plainRegisters : ∀ a ∈ plainRegisters, ∃ r, ioReg? a.toNat = some r ∧ r.plain = true := by
  simp only [plainRegisters, List.forall_mem_cons]
  exact ⟨⟨_, rfl, rfl⟩, ⟨_, rfl, rfl⟩, ⟨_, rfl, rfl⟩, ⟨_, rfl, rfl⟩, ⟨_, rfl, rfl⟩, ⟨_, rfl, rfl⟩,
    ⟨_, rfl, rfl⟩, ⟨_, rfl, rfl⟩, ⟨_, rfl, rfl⟩, ⟨_, rfl, rfl⟩, ⟨_, rfl, rfl⟩, ⟨_, rfl, rfl⟩, nofun⟩

/-- A plain register stores the byte written at its address, and that write changes no other read. -/
theorem State.plainRegister_stores (s : State) (v : Byte) {a : Word} (ha : a ∈ plainRegisters) :
    (s.memWrite a v).memRead a = v ∧ ∀ b, b ≠ a → (s.memWrite a v).memRead b = s.memRead b := by
  obtain ⟨h, h1⟩ := plainRegisters_range a ha
  obtain ⟨r, hr, hplain⟩ := plain_of_mem_plainRegisters a ha
  exact ⟨by rw [s.memRead_memWrite_register v h h1 hr, s.readReg_writeReg_plain v hplain],
    fun b hne => s.memRead_memWrite_register_of_ne v h h1 hr hne⟩

/-! ## Registers with bits that have no storage -/

/-- IF reads 1 in bits 7..5 (20_memory.md R100). -/
theorem iflagByte_eq (f : BitVec 5) : (7#3 ++ f : Byte) = 0xE0 ||| f.setWidth 8 := by revert f; decide

/-- IE reads 0 in bits 7..5 (20_memory.md R104). -/
theorem ieByte_eq (e : BitVec 5) : (0#3 ++ e : Byte) = e.setWidth 8 := by revert e; decide

/-- STAT after a write: bits 6..3 are those of the byte written, bits 2..0 those STAT had (20_memory.md R101). -/
theorem statByte_eq (v : Byte) (enable : BitVec 4) (coincidence : BitVec 1) (mode : BitVec 2) :
    (1#1 ++ v.extractLsb' 3 4 ++ coincidence ++ mode : Byte) =
      0x80 ||| (v &&& 0x78) ||| ((1#1 ++ enable ++ coincidence ++ mode : Byte) &&& 0x07) := by
  apply BitVec.eq_of_getLsbD_eq
  intro i hi
  simp only [BitVec.getLsbD_append, BitVec.getLsbD_or, BitVec.getLsbD_and, BitVec.getLsbD_extractLsb']
  interval_cases i <;> simp

/-- Settles O55: each address is its register's, and each register keeps and reads the bits its rule gives. -/
theorem registersReadAndWrite : Obligations.RegistersReadAndWrite := by
  intro s v
  refine ⟨rfl, ⟨rfl, rfl⟩, fun a ha => s.plainRegister_stores v ha, ⟨iflagByte_eq _, ?_⟩,
    ⟨statByte_eq v _ _ _, rfl⟩, ⟨rfl, rfl⟩, ⟨ieByte_eq _, ?_⟩⟩ <;>
  · rw [BitVec.ofNat_toNat]
    rfl

end Sys2Proof.Machine
end

section
/-! PROOFS. What every part of a step keeps of the images, the output and the one-way flags. -/

namespace Sys2Proof.Machine

/-- `t` continues `s`: the same images and RAM draw, the sink's calls with calls added at the end, inBios set and Stopped
clear only if they were. -/
structure State.Continues (s t : State) : Prop where
  cart : t.cart = s.cart
  ramDraw : t.ramDraw = s.ramDraw
  sink : ∃ calls, t.sink = s.sink ++ calls
  inBios : t.ctl.inBios = true → s.ctl.inBios = true
  stopped : s.ctl.stopped = true → t.ctl.stopped = true

namespace State.Continues

theorem trans {s t u : State} (h : s.Continues t) (h' : t.Continues u) : s.Continues u where
  cart := h'.cart.trans h.cart
  ramDraw := h'.ramDraw.trans h.ramDraw
  sink := by
    obtain ⟨calls, e⟩ := h.sink
    obtain ⟨calls', e'⟩ := h'.sink
    exact ⟨calls ++ calls', by rw [e', e, List.append_assoc]⟩
  inBios := h.inBios ∘ h'.inBios
  stopped := h'.stopped ∘ h.stopped

/-- A state that differs in nothing `Continues` speaks of. -/
theorem of_eq {s t : State} (hc : t.cart = s.cart) (hr : t.ramDraw = s.ramDraw) (hs : t.sink = s.sink)
    (hb : t.ctl.inBios = s.ctl.inBios) (hst : t.ctl.stopped = s.ctl.stopped) : s.Continues t :=
  ⟨hc, hr, ⟨[], by rw [hs, List.append_nil]⟩, hb ▸ id, hst ▸ id⟩

/-- Line 2 of a step may clear inBios and does nothing else. -/
theorem leaveBios (s : State) : s.Continues s.leaveBios := by
  obtain ⟨b, e, hb⟩ := leaveBios_cases s
  rw [e]
  exact ⟨rfl, rfl, ⟨[], (List.append_nil _).symm⟩, fun h => (hb h).1, id⟩

/-- An instruction may set Stopped, and keeps the rest. -/
theorem exec {i : Instr} {s t : State} (he : exec i s = .next t) : s.Continues t := by
  obtain ⟨hcart, hram, hsink, _, hctl⟩ := exec_control he
  have hflags : t.ctl.inBios = s.ctl.inBios ∧ (s.ctl.stopped = true → t.ctl.stopped = true) := by
    rcases hctl with ⟨n, _, e⟩ | heff
    · rw [e]; exact ⟨rfl, id⟩
    · generalize t.ctl = c at heff
      cases heff
      case stop => exact ⟨rfl, fun _ => rfl⟩
      all_goals exact ⟨rfl, id⟩
  exact ⟨hcart, hram, ⟨[], by rw [hsink, List.append_nil]⟩, hflags.1 ▸ id, hflags.2⟩

/-- The tail of a step adds calls to the sink, and keeps the rest. -/
theorem finishStep (s : State) : s.Continues s.finishStep := by
  obtain ⟨⟨hcart, hram, calls, hsink⟩, hctl⟩ := finishStep_cases s
  have hflags : s.finishStep.ctl.inBios = s.ctl.inBios ∧ s.finishStep.ctl.stopped = s.ctl.stopped := by
    rcases hctl with e | ⟨_, e⟩ <;> rw [e] <;> exact ⟨rfl, rfl⟩
  exact ⟨hcart, hram, ⟨calls, hsink⟩, hflags.1 ▸ id, hflags.2 ▸ id⟩

theorem endInstruction (s : State) : s.Continues s.endInstruction := by
  unfold State.endInstruction
  split
  · exact of_eq rfl rfl rfl rfl rfl
  · obtain ⟨c, e, _, _, _, hstopped, hinBios, _⟩ := eiUpdate_cases s
    refine trans (t := s.eiUpdate.nextSnapshot) ?_ (finishStep _)
    rw [e]
    exact of_eq rfl rfl rfl hinBios hstopped

/-- A step that is not stopped continues the state that line 2 leaves. -/
theorem step {s t : State} (h : step s = .next t) (hs : s.ctl.stopped = false) : s.leaveBios.Continues t := by
  obtain ⟨_, ⟨hstop, _⟩ | ⟨_, _, rfl⟩ | ⟨_, _, i, pc, u, _, he, rfl⟩⟩ := step_cases h
  · exact absurd (hs.symm.trans hstop) Bool.false_ne_true
  · have htook : s.leaveBios.Continues (s.leaveBios.took 4) := of_eq rfl rfl rfl rfl rfl
    exact htook.trans (finishStep _)
  · have hfetched : s.leaveBios.Continues (s.leaveBios.wake.setPc pc).nextSnapshot := of_eq rfl rfl rfl rfl rfl
    exact (hfetched.trans (exec he)).trans (endInstruction u)

end State.Continues

/-- A stopped step returns the count 0 and changes nothing else. -/
theorem eq_took_of_stopped {s t : State} (h : step s = .next t) (hs : s.ctl.stopped = true) : t = s.took 0 := by
  obtain ⟨_, ⟨_, ht⟩ | ⟨hrun, _⟩ | ⟨hrun, _⟩⟩ := step_cases h
  · exact ht
  all_goals exact absurd (hrun.symm.trans hs) Bool.false_ne_true

theorem step_continues {s t : State} (h : step s = .next t) : s.Continues t := by
  cases hs : s.ctl.stopped with
  | true => rw [eq_took_of_stopped h hs]; exact .of_eq rfl rfl rfl rfl rfl
  | false => exact (State.Continues.leaveBios s).trans (.step h hs)

/-- Settles O60: a step continues the state it begins in, and inBios is clear behind line 2 at PC 0x0100. -/
theorem stepKeepsImagesAndOutput : Obligations.StepKeepsImagesAndOutput := by
  intro s t h
  obtain ⟨hcart, hram, hsink, hinBios, hstopped⟩ := step_continues h
  refine ⟨hcart, hram, hsink, hinBios, hstopped, fun hs hpc => ?_⟩
  obtain ⟨b, e, hb⟩ := leaveBios_cases s
  refine Bool.eq_false_iff.mpr fun ht => ?_
  have hleft := (State.Continues.step h hs).inBios ht
  rw [e] at hleft
  exact (hb hleft).2 hpc

end Sys2Proof.Machine
end

section
/-! PROOFS. The decoder and the encoder as inverses of each other (30_encoding.md R130, R133, R134, R140, R145 to R147). -/

namespace Sys2Proof.Machine

/-! ## What the decoder does, form by form -/

/-- The decoder's successes: `bytes` begins with the instruction `i` and leaves `rest`. One case for each form of a first
byte. -/
inductive Decodes : (bytes : List Byte) → (i : Instr) → (rest : List Byte) → Prop where
  | op {op i rest} (h : opcodeForm op = .op i) : Decodes (op :: rest) i rest
  | byte {op f n rest} (h : opcodeForm op = .byte f) : Decodes (op :: n :: rest) (f n) rest
  | word {op f lo hi rest} (h : opcodeForm op = .word f) : Decodes (op :: lo :: hi :: rest) (f (joinBytes hi lo)) rest
  | cb {op op2 rest} (h : opcodeForm op = .cb) : Decodes (op :: op2 :: rest) (cbInstr op2) rest

theorem decode_eq_ok_iff {bytes rest : List Byte} {i : Instr} :
    decode bytes = .ok (i, rest) ↔ Decodes bytes i rest := by
  constructor
  · intro h
    cases bytes with
    | nil => cases h
    | cons op tail =>
      simp only [decode] at h
      split at h <;> cases h
      · exact .op ‹_›
      · exact .byte ‹_›
      · exact .word ‹_›
      · exact .cb ‹_›
  · intro h
    cases h <;> simp only [decode, *]

/-- The first byte alone fixes how many bytes decoding takes (R134). -/
theorem Decodes.length_eq {bytes rest : List Byte} {i : Instr} (h : Decodes bytes i rest) :
    ∃ op tail, bytes = op :: tail ∧ bytes.length = instrLength op + rest.length := by
  cases h
  all_goals
    refine ⟨_, _, rfl, ?_⟩
    simp only [instrLength, OpcodeForm.length, List.length_cons, *]
    omega

/-- Every first byte has a form (R146), and no form takes more than three bytes. -/
theorem exists_decodes (op n m : Byte) : ∃ i rest, Decodes [op, n, m] i rest := by
  cases h : opcodeForm op with
  | op i => exact ⟨_, _, .op h⟩
  | byte f => exact ⟨_, _, .byte h⟩
  | word f => exact ⟨_, _, .word h⟩
  | cb => exact ⟨_, _, .cb h⟩

theorem instrLength_cases (op : Byte) : instrLength op = 1 ∨ instrLength op = 2 ∨ instrLength op = 3 := by
  unfold instrLength
  cases opcodeForm op <;> simp [OpcodeForm.length]

/-! ## The opcode map and the CB map against the encoder -/

/-- Every instruction a form gives is encoded as the first byte `op` with the form's immediate after it. -/
def FormEncodes (op : Byte) : OpcodeForm → Prop
  | .op i => encode i = [op]
  | .byte f => encode ∘ f = fun n => [op, n]
  | .word f => encode ∘ f = fun nn => op :: wordBytes nn
  | .cb => op = 0xCB

/-- A property of every byte, from its 256 values. -/
theorem forall_byte {p : Byte → Prop} (h : ∀ k < 256, p (BitVec.ofNat 8 k)) (op : Byte) : p op := by
  simpa using h op.toNat op.isLt

/-- The opcode map gives each first byte the instructions the encoder gives that byte (R140). -/
theorem formEncodes_opcodeForm : ∀ op, FormEncodes op (opcodeForm op) :=
  forall_byte fun k hk => by interval_cases k <;> exact rfl

/-- The CB map gives each second byte the instruction the encoder gives that byte (R147). -/
theorem encode_cbInstr : ∀ op, encode (cbInstr op) = [0xCB, op] :=
  forall_byte fun k hk => by interval_cases k <;> rfl

/-- Decoding takes exactly the encoding off the front. -/
theorem Decodes.encode_append {bytes rest : List Byte} {i : Instr} (h : Decodes bytes i rest) :
    encode i ++ rest = bytes := by
  cases h with
  | @op op i rest h =>
    have henc : FormEncodes op (.op i) := h ▸ formEncodes_opcodeForm op
    exact congrArg (· ++ rest) henc
  | @byte op f n rest h =>
    have henc : FormEncodes op (.byte f) := h ▸ formEncodes_opcodeForm op
    exact congrArg (· ++ rest) (congrFun henc n)
  | @word op f lo hi rest h =>
    have henc : FormEncodes op (.word f) := h ▸ formEncodes_opcodeForm op
    have hbytes : encode (f (joinBytes hi lo)) = op :: wordBytes (joinBytes hi lo) := congrFun henc _
    simp [hbytes, wordBytes]
  | @cb op op2 rest h =>
    have henc : FormEncodes op .cb := h ▸ formEncodes_opcodeForm op
    rw [encode_cbInstr, show op = 0xCB from henc]
    rfl

/-- Splitting a two-byte immediate and joining it again gives it back. -/
theorem decode_wordBytes {op : Byte} {f : Word → Instr} (h : opcodeForm op = .word f) (nn : Word) (rest : List Byte) :
    decode (op :: wordBytes nn ++ rest) = .ok (f nn, rest) := by
  have hdec : Decodes (op :: wordBytes nn ++ rest) (f (joinBytes (highByte nn) (lowByte nn))) rest := .word h
  rw [joinBytes_high_low] at hdec
  exact decode_eq_ok_iff.mpr hdec

/-- Settles O1: the decoder computes each instruction back from its bytes, where a two-byte immediate is split and joined
again. -/
theorem decodeEncodeRoundTrip : Obligations.DecodeEncodeRoundTrip := by
  intro i rest
  cases i
  case ld_bc_nn nn | ld_de_nn nn | ld_hl_nn nn | ld_sp_nn nn | ld_at_nn_sp nn | ld_at_nn_a nn | ld_a_at_nn nn
      | jp_nn nn | jp_nz_nn nn | jp_z_nn nn | jp_nc_nn nn | jp_c_nn nn
      | call_nn nn | call_nz_nn nn | call_z_nn nn | call_nc_nn nn | call_c_nn nn =>
    exact decode_wordBytes rfl nn rest
  all_goals rfl

/-- Settles O2: both maps agree with the encoder byte by byte. -/
theorem encodeDecodeRoundTrip : Obligations.EncodeDecodeRoundTrip :=
  fun _ _ _ h => (decode_eq_ok_iff.mp h).encode_append

/-! ## The eleven illegal opcodes (R145) -/

/-- The first bytes that begin no instruction a program may contain (R145). -/
def illegalOpcodes : List Byte := [0xD3, 0xDB, 0xDD, 0xE3, 0xE4, 0xEB, 0xEC, 0xED, 0xF4, 0xFC, 0xFD]

/-- An instruction that is not well formed is an illegal opcode, one byte long. -/
theorem encode_of_not_wellFormed {i : Instr} (h : i.wellFormed = false) : ∃ op ∈ illegalOpcodes, encode i = [op] := by
  unfold Instr.wellFormed at h
  split at h
  case h_12 => cases h
  all_goals exact ⟨_, by simp [illegalOpcodes], rfl⟩

/-- An illegal opcode has a form of its own, an instruction that is not well formed. -/
theorem opcodeForm_of_illegal :
    ∀ op ∈ illegalOpcodes, ∃ i, opcodeForm op = .op i ∧ i.wellFormed = false := by
  simp only [illegalOpcodes, List.forall_mem_cons]
  exact ⟨⟨_, rfl, rfl⟩, ⟨_, rfl, rfl⟩, ⟨_, rfl, rfl⟩, ⟨_, rfl, rfl⟩, ⟨_, rfl, rfl⟩, ⟨_, rfl, rfl⟩,
    ⟨_, rfl, rfl⟩, ⟨_, rfl, rfl⟩, ⟨_, rfl, rfl⟩, ⟨_, rfl, rfl⟩, ⟨_, rfl, rfl⟩, nofun⟩

/-- What decodes is not well formed exactly when the first byte is illegal. -/
theorem Decodes.wellFormed_eq_false_iff {op : Byte} {tail rest : List Byte} {i : Instr}
    (h : Decodes (op :: tail) i rest) : i.wellFormed = false ↔ op ∈ illegalOpcodes := by
  constructor
  · intro hwf
    obtain ⟨op', hmem, henc⟩ := encode_of_not_wellFormed hwf
    have hbytes : [op'] ++ rest = op :: tail := henc ▸ h.encode_append
    cases hbytes
    exact hmem
  · intro hmem
    obtain ⟨j, hform, hwf⟩ := opcodeForm_of_illegal op hmem
    have hj := (decode_eq_ok_iff.mpr h).symm.trans (decode_eq_ok_iff.mpr (.op hform))
    cases hj
    exact hwf

/-- The first byte of an encoding fixes its length, which is 1 when the instruction is not well formed. -/
theorem encode_eq_cons (i : Instr) : ∃ op tail, encode i = op :: tail ∧ (encode i).length = instrLength op ∧
    (i.wellFormed = false → tail = []) := by
  have hdec : Decodes (encode i ++ []) i [] := decode_eq_ok_iff.mp (decodeEncodeRoundTrip i [])
  rw [List.append_nil] at hdec
  obtain ⟨op, tail, henc, hlen⟩ := hdec.length_eq
  refine ⟨op, tail, henc, hlen, fun hwf => ?_⟩
  obtain ⟨op', _, hillegal⟩ := encode_of_not_wellFormed hwf
  exact (List.cons.inj (henc.symm.trans hillegal)).2

/-- Settles O3: an encoding decodes, so it is as long as its first byte says; and any three bytes decode. -/
theorem opcodeSpaceIsFull : Obligations.OpcodeSpaceIsFull := by
  refine ⟨encode_eq_cons, instrLength_cases, rfl, fun op n m => ?_⟩
  obtain ⟨i, rest, h⟩ := exists_decodes op n m
  exact ⟨i, rest, decode_eq_ok_iff.mpr h, h.wellFormed_eq_false_iff⟩

end Sys2Proof.Machine
end

section
/-! PROOFS. The 8-bit loads (41_load8.md R200 to R218): the loads leave one register changed, the stores are one byte write,
and the four accesses that step HL are one of the two with HL written after. -/

namespace Sys2Proof.Machine

/-! ## What completes an 8-bit load -/

/-- The address of an LDH operand, its two bytes side by side (30_encoding.md R133). -/
theorem ioAddress_eq_append (n : Byte) : ioAddress n = 0xFF#8 ++ n := by
  have hn := n.isLt
  apply BitVec.eq_of_toNat_eq
  calc (ioAddress n).toNat = 0xFF * 256 + n.toNat := by
        simp only [ioAddress, BitVec.ofNat_eq_ofNat, BitVec.toNat_add, BitVec.toNat_ofNat, BitVec.toNat_setWidth]
        omega
    _ = (0xFF#8 ++ n : Word).toNat := (joinBytes_toNat 0xFF#8 n).symm

/-- The bytes of a two-byte immediate as bit fields, the low byte first (00_scope.md R11). -/
theorem wordBytes_eq_extract (nn : Word) : wordBytes nn = [nn.extractLsb' 0 8, nn.extractLsb' 8 8] := by
  rw [wordBytes, lowByte_eq, highByte_eq]

theorem Regs.setHl_eq_extract (g : Regs) (v : Word) :
    g.setHl v = { g with h := v.extractLsb' 8 8, l := v.extractLsb' 0 8 } := by
  rw [Regs.setHl, highByte_eq, lowByte_eq]

/-- An instruction that writes a register and is complete loads it. -/
theorem exists_loadsRegister {i : Instr} {s : State} {dst : R8} {v : Byte} {cycles : Nat}
    (h : exec i s = (s.setR8 dst v).done cycles) : ∃ t, exec i s = .next t ∧ LoadsRegister s t dst v cycles :=
  ⟨_, h, loadsRegister_setR8 s dst v cycles⟩

/-- An instruction that writes a byte, then the register file, and is complete stores that byte. -/
theorem exists_storesByte_setRegs {i : Instr} {s : State} {a : Word} {v : Byte} {g : Regs} {cycles : Nat}
    (h : exec i s = ((s.memWrite a v).setRegs g).done cycles) :
    ∃ t, exec i s = .next t ∧ StoresByte s t a v g cycles := by
  have hstore := storesByte_memWrite s a v g cycles
  rw [← s.memWrite_ctl a v] at hstore
  exact ⟨_, h, hstore⟩

/-- An instruction that writes a byte and is complete stores that byte and no register. -/
theorem exists_storesByte {i : Instr} {s : State} {a : Word} {v : Byte} {cycles : Nat}
    (h : exec i s = (s.memWrite a v).done cycles) : ∃ t, exec i s = .next t ∧ StoresByte s t a v s.regs cycles := by
  apply exists_storesByte_setRegs
  rw [← s.memWrite_regs a v]
  exact h

/-- An instruction that stores A at HL, then writes HL (R215, R217). -/
theorem exists_storesByte_setHl {i : Instr} {s : State} {v : Byte} {hl : Word} {cycles : Nat}
    (h : exec i s = ((s.setAtHL v).setHl hl).done cycles) :
    ∃ t, exec i s = .next t ∧
      StoresByte s t s.regs.hl v { s.regs with h := hl.extractLsb' 8 8, l := hl.extractLsb' 0 8 } cycles := by
  apply exists_storesByte_setRegs
  rw [h, ← Regs.setHl_eq_extract, State.setHl, State.setAtHL, State.memWrite_regs]

/-- An instruction that loads A, then writes HL (R216, R218). -/
theorem exists_loadsA_setHl {i : Instr} {s : State} {v : Byte} {hl : Word} {cycles : Nat}
    (h : exec i s = ((s.setA v).setHl hl).done cycles) :
    ∃ t, exec i s = .next t ∧ t.regs.a = v ∧ t.regs.hl = hl ∧ t.regs.flags = s.regs.flags ∧
      ChangesOnly s t [.a, .h, .l] cycles := by
  refine ⟨_, h, rfl, Regs.hl_setHl _ hl, rfl, changesOnly_regs s _ _ cycles (fun r hr => ?_) rfl rfl⟩
  cases r
  case a | h | l => exact absurd hr (by decide)
  all_goals rfl

/-- The bytes of an instruction decode to it and leave nothing. -/
theorem decode_of_encode {i : Instr} {bytes : List Byte} (h : encode i = bytes) : decode bytes = .ok (i, []) := by
  rw [← h, ← List.append_nil (encode i)]
  exact decodeEncodeRoundTrip i []

/-! ## The obligations -/

/-- Settles O16: a load of a register is one write of it, whatever register or byte it reads. -/
theorem loadRegister : Obligations.LoadRegister :=
  ⟨fun _ _ _ h => ⟨encode_of_shape h, fun s => exists_loadsRegister (exec_of_shape h s)⟩,
    fun _ _ _ h => ⟨encode_of_shape h, fun s => exists_loadsRegister (exec_of_shape h s)⟩,
    fun _ _ h => ⟨encode_of_shape h, fun s => exists_loadsRegister (exec_of_shape h s)⟩⟩

/-- Settles O17: a store at HL is one byte write. -/
theorem storeAtHl : Obligations.StoreAtHl :=
  ⟨fun _ _ h => ⟨encode_of_shape h, fun s => exists_storesByte (exec_of_shape h s)⟩,
    fun _ => ⟨rfl, fun _ => exists_storesByte rfl⟩⟩

/-- Settles O18: every form is one write of A; the forms differ in the address. -/
theorem loadAccumulator : Obligations.LoadAccumulator := by
  unfold Obligations.LoadAccumulator
  simp only [← ioAddress_eq_append, ← wordBytes_eq_extract]
  exact ⟨⟨rfl, fun _ => exists_loadsRegister rfl⟩, ⟨rfl, fun _ => exists_loadsRegister rfl⟩,
    fun _ => ⟨rfl, fun _ => exists_loadsRegister rfl⟩, fun _ => ⟨rfl, fun _ => exists_loadsRegister rfl⟩,
    ⟨rfl, fun _ => exists_loadsRegister rfl⟩⟩

/-- Settles O19: every form is one byte write of A; the forms differ in the address. -/
theorem storeAccumulator : Obligations.StoreAccumulator := by
  unfold Obligations.StoreAccumulator
  simp only [← ioAddress_eq_append, ← wordBytes_eq_extract]
  exact ⟨⟨rfl, fun _ => exists_storesByte rfl⟩, ⟨rfl, fun _ => exists_storesByte rfl⟩,
    fun _ => ⟨rfl, fun _ => exists_storesByte rfl⟩, fun _ => ⟨rfl, fun _ => exists_storesByte rfl⟩,
    ⟨rfl, fun _ => exists_storesByte rfl⟩⟩

/-- Settles O20: the access at the old HL, then the write of HL. -/
theorem accumulatorAtHlThenStepHl : Obligations.AccumulatorAtHlThenStepHl :=
  ⟨⟨rfl, fun _ => exists_storesByte_setHl rfl⟩, ⟨rfl, fun _ => exists_loadsA_setHl rfl⟩,
    ⟨rfl, fun _ => exists_storesByte_setHl rfl⟩, ⟨rfl, fun _ => exists_loadsA_setHl rfl⟩⟩

/-- Settles O4: each word is its instruction's encoding, which decodes back. -/
theorem specWordsDecode : Obligations.SpecWordsDecode := by
  refine ⟨?_, ?_, ?_, ?_, ?_, ?_, ?_, ?_, ?_, ?_, ?_⟩
  all_goals exact decode_of_encode rfl

end Sys2Proof.Machine
end

section
/-! PROOFS. The 16-bit loads and the stack (42_load16.md R230 to R235): the loads write one pair, PUSH is two byte writes below
SP, POP is two byte reads, and a pop reads back a push whose two bytes lie in memory cells. -/

namespace Sys2Proof.Machine

/-! ## What completes an instruction on a pair -/

/-- An instruction that writes a pair, then the flags, and is complete sets that pair. -/
theorem exists_setsPair_setFlags {i : Instr} {s : State} {rr : Pair} {v : Word} {f : Flags} {cycles : Nat}
    (h : exec i s = ((s.setPair rr v).setFlags f).done cycles) :
    ∃ t, exec i s = .next t ∧ SetsPair s t rr v cycles ∧ t.regs.flags = f :=
  ⟨_, h, setsPair_regs s rr v f cycles, rfl⟩

/-- An instruction that writes a pair and is complete sets that pair and no flag. -/
theorem exists_setsPair {i : Instr} {s : State} {rr : Pair} {v : Word} {cycles : Nat}
    (h : exec i s = (s.setPair rr v).done cycles) :
    ∃ t, exec i s = .next t ∧ SetsPair s t rr v cycles ∧ t.regs.flags = s.regs.flags := by
  apply exists_setsPair_setFlags
  rw [h, ← s.regs.setPair_flags rr v]
  rfl

/-! ## The stack pairs -/

/-- AF bit by bit: A, then Z, N, H and CY above four zero bits (10_state.md R21, R22). -/
theorem Regs.af_eq_append (g : Regs) :
    g.af = g.a ++ BitVec.ofBool g.flags.z ++ BitVec.ofBool g.flags.n ++ BitVec.ofBool g.flags.hf ++
      BitVec.ofBool g.flags.cy ++ 0#4 := by
  simp only [Regs.af, joinBytes, Flags.toByte, BitVec.append_assoc, BitVec.cast_eq]

/-- What is read of a stack pair after it is written, but for AF, whose low half has no storage in bits 3 to 0. -/
theorem Regs.stackPair_setStackPair (g : Regs) {qq : StackPair} (v : Word) (h : qq ≠ .af) :
    (g.setStackPair qq v).stackPair qq = v ∧ (g.setStackPair qq v).flags = g.flags := by
  cases qq with
  | af => exact absurd rfl h
  | bc | de | hl => exact ⟨joinBytes_high_low v, rfl⟩

/-- A write of a stack pair writes its own 8-bit registers only. -/
theorem Regs.r8_setStackPair_of_notMem (g : Regs) {qq : StackPair} (v : Word) {r : R8} (h : r ∉ stackPairHalves qq) :
    (g.setStackPair qq v).r8 r = g.r8 r := by
  cases qq <;> cases r <;> first | rfl | exact absurd h (by decide)

/-- Writing back what was read of a stack pair changes nothing, AF included. -/
theorem Regs.setStackPair_stackPair (g : Regs) (qq : StackPair) : g.setStackPair qq (g.stackPair qq) = g := by
  cases qq <;>
    simp [Regs.setStackPair, Regs.stackPair, Regs.setHl, Regs.bc, Regs.de, Regs.hl, Regs.af]

/-! ## The stack bytes -/

/-- What a cell's address and key are: outside cartridge RAM the key is the address's home (20_memory.md R70, R82). -/
theorem State.cell_region {s : State} {a : Word} {k : Nat} (h : s.locate a = .cell k) :
    0x8000 ≤ a.toNat ∧ (k = echoHome a.toNat ∨ (0xA000 ≤ a.toNat ∧ k = cartRamBase + s.ramOffset a.toNat)) := by
  unfold State.locate State.locateNat at h
  unfold echoHome
  generalize a.toNat = n at h ⊢
  split_ifs at h
  case neg =>
    cases hr : ioReg? n <;> rw [hr] at h <;> cases h
    split_ifs <;> omega
  all_goals simp only [Target.cell.injEq] at h
  all_goals split_ifs <;> omega

theorem Cartridge.ramSize_ne_one (c : Cartridge) : c.ramSize ≠ 1 := by
  unfold Cartridge.ramSize
  split <;> decide

/-- Neighbouring offsets of cartridge RAM differ, for no RAM size is 1 (20_memory.md R82, R85). -/
theorem State.ramOffset_succ_ne (s : State) {n : Nat} (h : 0xA000 ≤ n) : s.ramOffset (n + 1) ≠ s.ramOffset n := by
  intro he
  unfold State.ramOffset at he
  rw [Nat.sub_add_comm h, ← Nat.add_assoc] at he
  have hdvd := (Nat.modEq_iff_dvd' (Nat.le_succ _)).mp he.symm
  rw [Nat.succ_eq_add_one, Nat.add_sub_cancel_left] at hdvd
  exact s.cart.ramSize_ne_one (Nat.dvd_one.mp hdvd)

theorem echoHome_lt_cartRamBase {n : Nat} (h : n < 0x10000) : echoHome n < cartRamBase := by
  unfold echoHome cartRamBase
  split <;> omega

theorem echoHome_succ_ne (n : Nat) : echoHome (n + 1) ≠ echoHome n := by
  unfold echoHome
  split_ifs <;> omega

/-- Neighbouring addresses that select cells select different ones: next to each other in cartridge RAM or outside it their
keys differ, and across its border one key lies above every address. -/
theorem State.locate_succ_ne {s : State} {a : Word} {k k' : Nat} (h : s.locate (a + 1) = .cell k)
    (h' : s.locate a = .cell k') : s.locate (a + 1) ≠ s.locate a := by
  obtain ⟨hge, hk⟩ := State.cell_region h
  obtain ⟨-, hk'⟩ := State.cell_region h'
  have hlt := (a + 1).isLt
  have hsucc : (a + 1).toNat = a.toNat + 1 := by bv_omega
  rw [hsucc] at hk hlt
  rw [h, h', Ne, Target.cell.injEq]
  rcases hk with hhome | ⟨-, hram⟩ <;> rcases hk' with hhome' | ⟨hA000, hram'⟩
  · have := echoHome_succ_ne a.toNat
    omega
  · have := echoHome_lt_cartRamBase hlt
    omega
  · have := echoHome_lt_cartRamBase a.isLt
    omega
  · have := s.ramOffset_succ_ne hA000
    omega

theorem State.memRead_setSp (s : State) (sp a : Word) : (s.setSp sp).memRead a = s.memRead a :=
  State.memRead_congr rfl rfl rfl rfl rfl rfl rfl rfl rfl rfl rfl a

/-- Popping after a push into memory cells gives the word pushed: the second write does not touch the first's cell
(42_load16.md R233, R234). -/
theorem State.stackTop_push16 {s : State} {k k' : Nat} (v : Word) (h : s.locate (s.regs.sp - 1) = .cell k)
    (h' : s.locate (s.regs.sp - 2) = .cell k') : (s.push16 v).stackTop = v := by
  rw [← word_sub_two_add_one] at h
  have hge := (State.cell_region h).1
  have hge' := (State.cell_region h').1
  have hlocate : ∀ b, (s.memWrite (s.regs.sp - 2 + 1) (highByte v)).locate b = s.locate b :=
    fun b => s.locate_memWrite b (highByte v) hge
  have hlow : (s.push16 v).memRead (s.regs.sp - 2) = lowByte v := by
    rw [State.push16, State.memRead_setSp]
    exact State.memRead_memWrite_same _ _ hge' ((hlocate _).trans h')
  have hhigh : (s.push16 v).memRead (s.regs.sp - 2 + 1) = highByte v := by
    rw [State.push16, State.memRead_setSp, State.memRead_memWrite_of_ne]
    · exact s.memRead_memWrite_same _ hge h
    · exact hge'
    · rw [hlocate, hlocate]
      exact State.locate_succ_ne h h'
  rw [State.stackTop, State.memRead16, s.push16_regs, hlow, hhigh, joinBytes_high_low]

/-- A push then a pop moves SP back. -/
theorem State.popped_push16_regs (s : State) (v : Word) : (s.push16 v).popped.regs = s.regs := by
  simp

/-! ## What completes PUSH and POP -/

/-- Writing PC with what it holds changes nothing. -/
theorem State.setPc_of_eq {s : State} {pc : Word} (h : s.regs.pc = pc) : s.setPc pc = s := by
  rw [← h]
  rfl

/-- An instruction that pushes a word and is complete leaves PC alone. -/
theorem exists_pushes {i : Instr} {s : State} {v : Word} {cycles : Nat} (h : exec i s = (s.push16 v).done cycles) :
    ∃ t, exec i s = .next t ∧ Pushes s t v s.regs.pc cycles := by
  have hpc : (s.push16 v).setPc s.regs.pc = s.push16 v := State.setPc_of_eq (by simp)
  have hpush := pushes_push16 s v s.regs.pc cycles
  rw [hpc] at hpush
  exact ⟨_, h, hpush⟩

/-! ## The obligations -/

/-- Settles O21: every form is one write of a pair. -/
theorem loadPair : Obligations.LoadPair := by
  unfold Obligations.LoadPair
  simp only [← wordBytes_eq_extract]
  exact ⟨fun _ _ _ h => ⟨encode_of_shape h, fun s => exists_setsPair (exec_of_shape h s)⟩,
    rfl, fun _ => exists_setsPair rfl⟩

/-- Settles O22: two byte writes, the low byte's first. -/
theorem storeStackPointer : Obligations.StoreStackPointer := by
  unfold Obligations.StoreStackPointer
  simp only [← lowByte_eq, ← highByte_eq]
  refine fun nn => ⟨rfl, fun s => ⟨_, rfl, ?_, ?_, ?_⟩⟩
  · simp only [State.memWrite16, State.took, State.memWrite_ctl]
  · simp only [State.memWrite16, State.took_regs, State.memWrite_regs]
  · exact (storesOnly_memWrite_two s _ _ (.inl rfl)).of_cpu _ _ rfl

/-- Settles O23: PUSH is the shared push of the pair, PC left alone. -/
theorem pushPair : Obligations.PushPair := by
  intro i qq h
  refine ⟨encode_of_shape h, fun s => ?_⟩
  obtain ⟨t, hexec, hpush⟩ := exists_pushes (exec_of_shape h s)
  exact ⟨t, hexec, hpush, s.regs.af_eq_append⟩

/-- Settles O24: POP is one write of the pair with the word at SP, and SP past it. -/
theorem popPair : Obligations.PopPair := by
  intro i qq h
  refine ⟨encode_of_shape h, fun s => ⟨_, exec_of_shape h s, ?_⟩⟩
  refine ⟨fun hqq => s.popped.regs.stackPair_setStackPair s.stackTop hqq, ?_, ?_, ?_, ?_, ?_, ?_, ?_⟩
  · rintro rfl
    exact ⟨highByte_joinBytes _ _, congrArg Flags.ofByte (lowByte_joinBytes _ _)⟩
  · exact fun r hr => s.popped.regs.r8_setStackPair_of_notMem s.stackTop hr
  · exact s.popped.regs.setStackPair_sp qq s.stackTop
  · exact s.popped.regs.setStackPair_pc qq s.stackTop
  · exact keepsControl_cycles s _ 12
  · rfl
  · exact storesNothing_regs s _ _ rfl

/-- Settles O25: the pop reads the pushed pair back, and SP returns. -/
theorem pushThenPopRestores : Obligations.PushThenPopRestores := by
  intro i j qq s k k' hi hj hk hk'
  refine ⟨_, _, exec_of_shape hi s, exec_of_shape hj _, ?_⟩
  have htop := State.stackTop_push16 (s.regs.stackPair qq) hk hk'
  have hregs := s.popped_push16_regs (s.regs.stackPair qq)
  calc (s.push16 (s.regs.stackPair qq)).popped.regs.setStackPair qq (s.push16 (s.regs.stackPair qq)).stackTop
      = s.regs.setStackPair qq (s.regs.stackPair qq) := by rw [htop, hregs]
    _ = s.regs := s.regs.setStackPair_stackPair qq

/-- Settles O26: both forms write the signed sum and its flags; `signExtend` is the rule's sign extension. -/
theorem stackPointerPlusDisplacement : Obligations.StackPointerPlusDisplacement :=
  ⟨fun _ => ⟨rfl, fun _ => exists_setsPair_setFlags rfl⟩, fun _ => ⟨rfl, fun _ => exists_setsPair_setFlags rfl⟩⟩

end Sys2Proof.Machine
end

section
/-! PROOFS. 8-bit arithmetic and logic (43_alu8.md R250 to R284): every instruction here but INC (HL) and DEC (HL) writes one
register and the flags, or the flags alone; what it writes is what its rule's formula gives. -/

namespace Sys2Proof.Machine

/-! ## What completes an instruction on bytes -/

/-- An instruction that writes a register, then the flags, and is complete. -/
theorem exists_setR8_setFlags {i : Instr} {s : State} {r : R8} {v : Byte} {f : Flags} {cycles : Nat}
    (h : exec i s = ((s.setR8 r v).setFlags f).done cycles) :
    ∃ t, exec i s = .next t ∧ t.regs.r8 r = v ∧ t.regs.flags = f ∧ ChangesOnly s t [r] cycles := by
  refine ⟨_, h, ?_, rfl, changesOnly_setR8 s r v f cycles⟩
  calc ((s.setR8 r v).setFlags f).regs.r8 r
      = (s.regs.setR8 r v).r8 r := by cases r <;> rfl
    _ = v := Regs.r8_setR8_same s.regs r v

/-- An instruction that writes the flags and is complete. -/
theorem exists_setFlags {i : Instr} {s : State} {f : Flags} {cycles : Nat}
    (h : exec i s = (s.setFlags f).done cycles) :
    ∃ t, exec i s = .next t ∧ t.regs.flags = f ∧ ChangesOnly s t [] cycles :=
  ⟨_, h, rfl, changesOnly_setFlags s f cycles⟩

/-- An instruction that stores a byte at HL, then writes the flags, and is complete. -/
theorem exists_storesByte_setFlags {i : Instr} {s : State} {v : Byte} {f : Flags} {cycles : Nat}
    (h : exec i s = ((s.setAtHL v).setFlags f).done cycles) :
    ∃ t, exec i s = .next t ∧ StoresByte s t s.regs.hl v { s.regs with flags := f } cycles := by
  apply exists_storesByte_setRegs
  rw [h, State.setFlags, State.setAtHL, State.memWrite_regs]

/-- An ALU operation, whatever its form, writes A and the flags with what `alu8` gives for its operand (R252). -/
theorem AluForm.completes {i : Instr} {o : AluOp} {s : State} {v : Byte} {bytes : List Byte} {cycles : Nat}
    (h : AluForm i o s v bytes cycles) :
    encode i = bytes ∧ ∃ t, exec i s = .next t ∧ t.regs.a = (alu8 o s.regs.a v s.regs.flags).1 ∧
      t.regs.flags = (alu8 o s.regs.a v s.regs.flags).2 ∧ ChangesOnly s t [.a] cycles := by
  rcases h with ⟨src, hshape, rfl, rfl, rfl⟩ | ⟨hshape, rfl, rfl, rfl⟩ | ⟨n, hshape, rfl, rfl, rfl⟩
  all_goals exact ⟨encode_of_shape hshape, exists_setR8_setFlags (r := .a) (exec_of_shape hshape s)⟩

/-! ## The formulas of the rules -/

/-- The sum modulo 256 (R250). -/
theorem add8_toNat (a b : Byte) (c : Nat) : (add8 a b c).1.toNat = (a.toNat + b.toNat + c) % 256 :=
  BitVec.toNat_ofNat _ 8

/-- The difference as an integer modulo 256 (R251). -/
theorem sub8_toNat (a b : Byte) (c : Nat) : ((sub8 a b c).1.toNat : Int) = ((a.toNat : Int) - b.toNat - c) % 256 := by
  have hnonneg : 0 ≤ ((a.toNat : Int) - b.toNat - c) % 256 := Int.emod_nonneg _ (by decide)
  rw [sub8, BitVec.toNat_ofInt]
  exact Int.toNat_of_nonneg hnonneg

/-- The difference is the zero byte exactly when the integer is zero modulo 256. -/
theorem sub8_eq_zero_iff (a b : Byte) (c : Nat) :
    (sub8 a b c).1 = 0 ↔ ((a.toNat : Int) - b.toNat - c) % 256 = 0 := by
  rw [← sub8_toNat, Int.natCast_eq_zero, ← BitVec.toNat_inj]
  rfl

/-- The flags of a subtraction, Z by the integer modulo 256. -/
theorem sub8_flags (a b : Byte) (c : Nat) :
    (sub8 a b c).2 = { z := decide (((a.toNat : Int) - b.toNat - c) % 256 = 0), n := true
                       hf := decide (a.toNat % 16 < b.toNat % 16 + c), cy := decide (a.toNat < b.toNat + c) } := by
  simp only [← sub8_eq_zero_iff]
  rfl

/-- ADD and ADC are one addition, which takes the carry in for ADC. -/
theorem alu8_eq_add8 {o : AluOp} (h : o = .add ∨ o = .adc) (a v : Byte) (f : Flags) :
    alu8 o a v f = add8 a v (if o = .adc then f.cy.toNat else 0) := by
  rcases h with rfl | rfl <;> rfl

/-- SUB, SBC and CP are one subtraction, which takes the carry in for SBC and whose result CP drops. -/
theorem alu8_eq_sub8 {o : AluOp} (h : o = .sub ∨ o = .sbc ∨ o = .cp) (a v : Byte) (f : Flags) :
    alu8 o a v f =
      let r := sub8 a v (if o = .sbc then f.cy.toNat else 0)
      (if o = .cp then a else r.1, r.2) := by
  rcases h with rfl | rfl | rfl <;> rfl

/-- The low nibble of a byte is its value modulo 16. -/
theorem lowNibble_toNat (v : Byte) : (v &&& 0x0F).toNat = v.toNat % 16 :=
  Nat.and_two_pow_sub_one_eq_mod v.toNat 4

/-- A test of the low nibble as a test of the value modulo 16, as the rules of INC and DEC write it (R277, R279). -/
theorem lowNibble_eq_iff (v n : Byte) : v &&& 0x0F = n ↔ v.toNat % 16 = n.toNat := by
  rw [← lowNibble_toNat, BitVec.toNat_inj]

theorem inc8_eq (old : Byte) (f : Flags) :
    inc8 old f = (old + 1, { z := decide (old + 1 = 0), n := false, hf := decide (old.toNat % 16 = 0x0F), cy := f.cy }) := by
  simp only [inc8, lowNibble_eq_iff]
  rfl

theorem dec8_eq (old : Byte) (f : Flags) :
    dec8 old f = (old - 1, { z := decide (old - 1 = 0), n := true, hf := decide (old.toNat % 16 = 0x00), cy := f.cy }) := by
  simp only [dec8, lowNibble_eq_iff]
  rfl

/-- DAA after an addition: a correction is made where the flag or the magnitude asks for it (R281). -/
theorem daa8_of_add (a : Byte) {f : Flags} (h : f.n = false) :
    (daa8 a f).1 = a + (if f.cy = true ∨ 0x99 < a.toNat then 0x60 else 0) +
        (if f.hf = true ∨ 0x09 < a.toNat % 16 then 0x06 else 0) ∧
      (daa8 a f).2.cy = decide (f.cy = true ∨ 0x99 < a.toNat) := by
  simp only [daa8, lowNibble_toNat]
  simp [h, BitVec.add_assoc]

/-- DAA after a subtraction: a correction is made where the flag asks for it (R281). -/
theorem daa8_of_sub (a : Byte) {f : Flags} (h : f.n = true) :
    (daa8 a f).1 = a - (if f.cy = true then 0x60 else 0) - (if f.hf = true then 0x06 else 0) ∧
      (daa8 a f).2.cy = f.cy := by
  simp [daa8, h, sub_add_eq_sub_sub]

/-! ## The obligations -/

/-- Settles O27: both operations are `add8`, in every form. -/
theorem addWithFlags : Obligations.AddWithFlags := by
  intro i s o v bytes cycles ho hform
  obtain ⟨henc, t, hexec, ha, hflags, hframe⟩ := hform.completes
  rw [alu8_eq_add8 ho] at ha hflags
  refine ⟨henc, t, hexec, ?_, ?_, hframe⟩
  · rw [ha, add8_toNat]
  · rw [hflags, ha]
    rfl

/-- Settles O28: the three operations are `sub8`, in every form; CP drops its result. -/
theorem subtractWithFlags : Obligations.SubtractWithFlags := by
  intro i s o v bytes cycles ho hform
  obtain ⟨henc, t, hexec, ha, hflags, hframe⟩ := hform.completes
  rw [alu8_eq_sub8 ho] at ha hflags
  dsimp only at ha hflags
  refine ⟨henc, t, hexec, fun hcp => ?_, fun hcp => ?_, ?_, hframe⟩
  · rw [ha, if_neg hcp, sub8_toNat]
  · rw [ha, if_pos hcp]
  · rw [hflags, sub8_flags]

/-- Settles O29: each operation's result is its own; the flags differ in H. -/
theorem logicWithFlags : Obligations.LogicWithFlags := by
  intro i s o v bytes cycles ho hform
  obtain ⟨henc, t, hexec, ha, hflags, hframe⟩ := hform.completes
  refine ⟨henc, t, hexec, ?_, ?_, ?_, ?flags, hframe⟩
  case flags =>
    rw [hflags, ha]
    rcases ho with rfl | rfl | rfl <;> rfl
  all_goals
    rintro rfl
    exact ha

/-- Settles O30: the register forms write `inc8` or `dec8` of the register, the (HL) forms store that of the byte read. -/
theorem incrementByte : Obligations.IncrementByte := by
  refine ⟨fun i r h => ⟨encode_of_shape h, fun s => ?_⟩, fun i r h => ⟨encode_of_shape h, fun s => ?_⟩,
    ⟨rfl, fun s => ?_⟩, ⟨rfl, fun s => ?_⟩⟩
  · obtain ⟨t, hexec, hr, hflags, hframe⟩ := exists_setR8_setFlags (exec_of_shape h s)
    rw [inc8_eq] at hr hflags
    exact ⟨t, hexec, hr, by rw [hflags, hr], hframe⟩
  · obtain ⟨t, hexec, hr, hflags, hframe⟩ := exists_setR8_setFlags (exec_of_shape h s)
    rw [dec8_eq] at hr hflags
    exact ⟨t, hexec, hr, by rw [hflags, hr], hframe⟩
  · have hstore := exists_storesByte_setFlags (i := .inc_at_hl) (s := s) rfl
    rw [inc8_eq] at hstore
    exact hstore
  · have hstore := exists_storesByte_setFlags (i := .dec_at_hl) (s := s) rfl
    rw [dec8_eq] at hstore
    exact hstore

/-- Settles O31: DAA writes `daa8` of A and the flags. -/
theorem decimalAdjust : Obligations.DecimalAdjust := by
  refine ⟨rfl, fun s => ?_⟩
  obtain ⟨t, hexec, ha, hflags, hframe⟩ := exists_setR8_setFlags (i := .daa) (s := s) (r := .a) rfl
  rw [Regs.r8_a] at ha
  refine ⟨t, hexec, ?_⟩
  rw [ha, hflags]
  exact ⟨daa8_of_add _, daa8_of_sub _, rfl, rfl, rfl, hframe⟩

/-- Settles O32: CPL writes A and the flags, SCF and CCF the flags alone. -/
theorem complementAndCarryFlag : Obligations.ComplementAndCarryFlag := by
  refine ⟨⟨rfl, fun s => ?_⟩, ⟨rfl, fun _ => exists_setFlags rfl⟩, ⟨rfl, fun _ => exists_setFlags rfl⟩⟩
  obtain ⟨t, hexec, ha, hflags, hframe⟩ := exists_setR8_setFlags (i := .cpl) (s := s) (r := .a) rfl
  rw [Regs.r8_a] at ha
  refine ⟨t, hexec, ?_, hflags, hframe⟩
  rw [ha, BitVec.toNat_not]

end Sys2Proof.Machine
end

section
/-! PROOFS. 16-bit arithmetic (44_alu16.md R290 to R292): every instruction here writes one pair; ADD HL,rr writes the flags
as well. -/

namespace Sys2Proof.Machine

/-- The sum of ADD HL,rr, taken on natural numbers and narrowed to 16 bits (R290). -/
theorem add16_eq_ofNat (a b : Word) (f : Flags) : (add16 a b f).1 = BitVec.ofNat 16 (a.toNat + b.toNat) :=
  BitVec.add_def a b

/-! ## The obligation -/

/-- Settles O33: ADD HL,rr writes HL and the flags with `add16`; INC rr and DEC rr write the pair alone. -/
theorem pairArithmetic : Obligations.PairArithmetic := by
  refine ⟨fun i rr h => ⟨encode_of_shape h, fun s => ?_⟩,
    fun i rr h => ⟨encode_of_shape h, fun s => exists_setsPair (exec_of_shape h s)⟩,
    fun i rr h => ⟨encode_of_shape h, fun s => exists_setsPair (exec_of_shape h s)⟩⟩
  obtain ⟨t, hexec, hset, hflags⟩ := exists_setsPair_setFlags (rr := .hl) (exec_of_shape h s)
  rw [add16_eq_ofNat] at hset
  exact ⟨t, hexec, hset, hflags⟩

end Sys2Proof.Machine
end

section
/-! PROOFS. Rotates, shifts and bit operations (45_rotate_shift_bit.md R300 to R326): each instruction writes one register or
the byte at HL, with or without the flags, or (BIT) the flags alone; the operations are R304's table and a mask of one bit. -/

namespace Sys2Proof.Machine

/-! ## The formulas of the rules -/

/-- A flag or a bit as a byte is the one-bit vector, widened. -/
theorem bitByte_eq_setWidth (b : Bool) : bitByte b = (BitVec.ofBool b).setWidth 8 := by
  cases b <;> rfl

/-- The shift functions compute the table of R304, its two columns side by side. -/
theorem shift8_eq (o : ShiftOp) (v : Byte) (cy : Bool) : shift8 o v cy = (shiftResult o v cy, shiftCarryOut o v) := by
  cases o
  case rlc | rrc | rl | rr =>
    simp only [shiftResult, bitByte_eq_setWidth]
    rfl
  all_goals rfl

/-- The mask of a bit has that bit and no other. -/
theorem getLsbD_bitMask (b : Fin 8) (k : Nat) : (bitMask b).getLsbD k = decide (k = b.val) := by
  have hb := b.isLt
  calc (bitMask b).getLsbD k
      = (BitVec.twoPow 8 b.val).getLsbD k := by rw [BitVec.twoPow_eq]; rfl
    _ = decide (k = b.val) := by simp [BitVec.getLsbD_twoPow, hb, eq_comm]

/-- RES clears the bit and keeps the others (R323, R324). -/
theorem getLsbD_and_not_bitMask (v : Byte) (b : Fin 8) {k : Nat} (hk : k < 8) :
    (v &&& ~~~bitMask b).getLsbD k = if k = b.val then false else v.getLsbD k := by
  rw [BitVec.getLsbD_and, BitVec.getLsbD_not, getLsbD_bitMask]
  by_cases h : k = b.val <;> simp [h, hk]

/-- SET sets the bit and keeps the others (R325, R326). -/
theorem getLsbD_or_bitMask (v : Byte) (b : Fin 8) (k : Nat) :
    (v ||| bitMask b).getLsbD k = if k = b.val then true else v.getLsbD k := by
  rw [BitVec.getLsbD_or, getLsbD_bitMask]
  by_cases h : k = b.val <;> simp [h]

/-! ## The obligations -/

/-- Settles O34: every form is one write of A and one of the flags; the forms differ in the rotate. -/
theorem rotateAccumulator : Obligations.RotateAccumulator := by
  unfold Obligations.RotateAccumulator
  simp only [bitByte_eq_setWidth]
  refine ⟨⟨rfl, ?_⟩, ⟨rfl, ?_⟩, ⟨rfl, ?_⟩, ⟨rfl, ?_⟩⟩
  all_goals exact fun _ => exists_setR8_setFlags (r := .a) rfl

/-- Settles O35: every form writes `shift8` of the register and its flags. -/
theorem shiftRegister : Obligations.ShiftRegister := by
  refine fun i o r h => ⟨encode_of_shape h, fun s => ?_⟩
  obtain ⟨t, hexec, hr, hflags, hframe⟩ := exists_setR8_setFlags (exec_of_shape h s)
  rw [shift8_eq] at hr hflags
  exact ⟨t, hexec, hr, by rw [hflags, hr, shiftFlags], hframe⟩

/-- Settles O36: every form stores `shift8` of the byte read and writes its flags. -/
theorem shiftAtHl : Obligations.ShiftAtHl := by
  refine fun i o h => ⟨encode_of_shape h, fun s => ?_⟩
  have hstore := exists_storesByte_setFlags (exec_of_shape h s)
  rw [shift8_eq] at hstore
  exact hstore

/-- Settles O37: both forms write the flags alone. -/
theorem testBit : Obligations.TestBit :=
  ⟨fun _ _ _ h => ⟨encode_of_shape h, fun s => exists_setFlags (exec_of_shape h s)⟩,
    fun _ _ h => ⟨encode_of_shape h, fun s => exists_setFlags (exec_of_shape h s)⟩⟩

/-- Settles O38: a register form is a load of the masked register, an (HL) form a store of the masked byte. -/
theorem resetAndSetBit : Obligations.ResetAndSetBit := by
  refine ⟨fun i b r h => ⟨encode_of_shape h, fun s => ?_⟩, fun i b r h => ⟨encode_of_shape h, fun s => ?_⟩,
    fun i b h => ⟨encode_of_shape h, fun s => ?_⟩, fun i b h => ⟨encode_of_shape h, fun s => ?_⟩⟩
  · obtain ⟨t, hexec, hr, hkeep⟩ := exists_loadsRegister (exec_of_shape h s)
    exact ⟨t, hexec, fun k hk => by rw [hr, getLsbD_and_not_bitMask _ b hk], hkeep⟩
  · obtain ⟨t, hexec, hr, hkeep⟩ := exists_loadsRegister (exec_of_shape h s)
    exact ⟨t, hexec, fun k _ => by rw [hr, getLsbD_or_bitMask], hkeep⟩
  · obtain ⟨t, hexec, hstore⟩ := exists_storesByte (exec_of_shape h s)
    exact ⟨t, _, hexec, fun _ hk => getLsbD_and_not_bitMask _ b hk, hstore⟩
  · obtain ⟨t, hexec, hstore⟩ := exists_storesByte (exec_of_shape h s)
    exact ⟨t, _, hexec, fun k _ => getLsbD_or_bitMask _ b k, hstore⟩

end Sys2Proof.Machine
end

section
/-! PROOFS. Jumps, calls, returns and restarts (46_control.md R330 to R340): each form writes PC, pushes PC and writes it, or
pops it; a conditional form does so or only counts its cycles. -/

namespace Sys2Proof.Machine

/-! ## The formulas of the rules -/

/-- The model's condition test is the rule's table (30_encoding.md R138). -/
theorem Flags.holds_iff (f : Flags) (cc : Cond) : f.holds cc = true ↔ CondTrue f cc := by
  cases cc with
  | z | c => exact Iff.rfl
  | nz => exact iff_of_eq (Bool.not_eq_true' f.z)
  | nc => exact iff_of_eq (Bool.not_eq_true' f.cy)

/-- The target of a restart, `k * 8` as the rule writes it (R337). -/
theorem restartTarget_eq (k : Fin 8) : restartTarget k = BitVec.ofNat 16 (k * 8) := by
  rw [restartTarget, Nat.mul_comm]

/-! ## What a transfer of control leaves unchanged -/

/-- A write of PC and SP, with any control state put in place that keeps the BIOS overlay. -/
theorem transfers_regs (s : State) (target sp : Word) (c : Control) (hb : c.inBios = s.ctl.inBios) :
    Transfers s { s with regs := { s.regs with pc := target, sp := sp }, ctl := c } target sp c.cycles :=
  ⟨rfl, rfl, fun r _ => by cases r <;> rfl, rfl, rfl, storesNothing_regs s _ c hb⟩

theorem jumps_setPc (s : State) (target : Word) (cycles : Nat) : Jumps s ((s.setPc target).took cycles) target cycles :=
  ⟨transfers_regs s target s.regs.sp _ rfl, keepsControl_cycles s _ cycles⟩

/-- A conditional form that is not taken: PC is left where the fetch put it. -/
theorem jumps_took (s : State) (cycles : Nat) : Jumps s (s.took cycles) s.regs.pc cycles :=
  jumps_setPc s s.regs.pc cycles

theorem pushes_callTo (s : State) (target : Word) (cycles : Nat) :
    Pushes s ((s.callTo target).took cycles) s.regs.pc target cycles :=
  pushes_push16 s s.regs.pc target cycles

theorem popsPc_returned (s : State) (cycles : Nat) :
    PopsPc s (s.returned.took cycles) cycles ∧ KeepsControl s (s.returned.took cycles) :=
  ⟨transfers_regs s _ _ _ rfl, keepsControl_cycles s _ cycles⟩

/-- A return from an interrupt is a return that writes IME and eiDelay as well (R340). -/
theorem popsPc_returnFromInterrupt (s : State) (cycles : Nat) :
    PopsPc s (s.returnFromInterrupt.took cycles) cycles :=
  transfers_regs s _ _ _ rfl

/-! ## What completes a conditional form -/

/-- A conditional form ends in the one state or the other, as its condition's flag says. -/
theorem exists_conditional {i : Instr} {s t u : State} {cc : Cond} {m n : Nat} {P Q : State → Prop}
    (h : exec i s = if s.regs.flags.holds cc then t.done m else u.done n) (ht : P (t.took m)) (hu : Q (u.took n)) :
    ∃ t', exec i s = .next t' ∧ (CondTrue s.regs.flags cc → P t') ∧ (¬ CondTrue s.regs.flags cc → Q t') := by
  simp only [← Flags.holds_iff]
  by_cases hcc : s.regs.flags.holds cc = true
  · rw [if_pos hcc] at h
    exact ⟨_, h, fun _ => ht, fun hn => absurd hcc hn⟩
  · rw [if_neg hcc] at h
    exact ⟨_, h, fun hp => absurd hp hcc, fun _ => hu⟩

/-! ## The obligations -/

/-- Settles O39: every form writes PC, or is not taken. -/
theorem jumpAbsolute : Obligations.JumpAbsolute := by
  unfold Obligations.JumpAbsolute
  simp only [← wordBytes_eq_extract]
  refine ⟨fun nn => ⟨rfl, fun s => ⟨_, rfl, jumps_setPc s nn 16⟩⟩,
    fun i cc nn h => ⟨encode_of_shape h, fun s => ?_⟩, rfl, fun s => ⟨_, rfl, jumps_setPc s s.regs.hl 4⟩⟩
  exact exists_conditional (exec_of_shape h s) (jumps_setPc s nn 16) (jumps_took s 12)

/-- Settles O40: both forms write PC with the model's target, whose `signExtend` is the rule's sign extension. -/
theorem jumpRelative : Obligations.JumpRelative := by
  refine ⟨fun e => ⟨rfl, fun s => ⟨_, rfl, jumps_setPc s (s.relativeTarget e) 12⟩⟩,
    fun i cc e h => ⟨encode_of_shape h, fun s => ?_⟩⟩
  exact exists_conditional (exec_of_shape h s) (jumps_setPc s (s.relativeTarget e) 12) (jumps_took s 8)

/-- Settles O41: every form is the shared call, or is not taken. -/
theorem callAndRestart : Obligations.CallAndRestart := by
  unfold Obligations.CallAndRestart
  simp only [← wordBytes_eq_extract, ← restartTarget_eq]
  refine ⟨fun nn => ⟨rfl, fun s => ⟨_, rfl, pushes_callTo s nn 24⟩⟩,
    fun i cc nn h => ⟨encode_of_shape h, fun s => ?_⟩, fun i k h => ⟨encode_of_shape h, fun s => ?_⟩⟩
  · exact exists_conditional (exec_of_shape h s) (pushes_callTo s nn 24) (jumps_took s 12)
  · exact ⟨_, exec_of_shape h s, pushes_callTo s (restartTarget k) 16⟩

/-- Settles O42: both forms are the shared return, or are not taken. -/
theorem returnFromSubroutine : Obligations.ReturnFromSubroutine := by
  refine ⟨⟨rfl, fun s => ⟨_, rfl, popsPc_returned s 16⟩⟩, fun i cc h => ⟨encode_of_shape h, fun s => ?_⟩⟩
  exact exists_conditional (exec_of_shape h s) (popsPc_returned s 20) (jumps_took s 8)

/-- Settles O43: RETI is a return and one write of the control state. -/
theorem returnFromInterrupt : Obligations.ReturnFromInterrupt :=
  ⟨rfl, fun s => ⟨_, rfl, popsPc_returnFromInterrupt s 16, rfl⟩⟩

end Sys2Proof.Machine
end

section
/-! PROOFS. CPU control (47_cpu_control.md R350 to R355), and EI's delay over the two steps it spans (60_exceptions.md R410
line 5, R414). -/

namespace Sys2Proof.Machine

/-! ## The control instructions -/

/-- Settles O44: each operation writes its fields of the control state and is complete. -/
theorem cpuControl : Obligations.CpuControl :=
  ⟨⟨rfl, fun _ => rfl⟩, ⟨rfl, fun _ => rfl⟩, fun _ => ⟨rfl, fun _ => rfl⟩, ⟨rfl, fun _ => rfl⟩, ⟨rfl, fun _ => rfl⟩⟩

theorem wellFormed_eq_false_of_shape {i : Instr} {op : Byte} (h : i.shape = .illegal op) : i.wellFormed = false := by
  cases i <;> cases h <;> rfl

/-- Settles O45: the eleven opcodes share one shape, whose operation is `raiseIllegal`. -/
theorem illegalOpcodeIsRecorded : Obligations.IllegalOpcodeIsRecorded :=
  fun _ _ h => ⟨encode_of_shape h, wellFormed_eq_false_of_shape h, fun s => exec_of_shape h s⟩

/-! ## The step of a fetched instruction -/

/-- A fetch of the bytes that decode to `i` gives `i`, with PC past its encoding (30_encoding.md R131). -/
theorem fetchInstr_of_decodes {b : State} {i : Instr} {rest : List Byte}
    (h : Decodes [b.codeByte b.regs.pc, b.codeByte (b.regs.pc + 1), b.codeByte (b.regs.pc + 2)] i rest) :
    b.fetchInstr = (i, b.setPc (b.regs.pc + BitVec.ofNat 16 (encode i).length)) := by
  have hlen : (encode i).length + rest.length = 3 := by
    rw [← List.length_append, h.encode_append]; rfl
  have hfirst : b.fetch8.1 = b.codeByte b.regs.pc := rfl
  have htwo : b.regs.pc + 2 = b.regs.pc + 1 + 1 := by bv_omega
  have hthree : b.regs.pc + 3 = b.regs.pc + 1 + 1 + 1 := by bv_omega
  rw [htwo] at h
  unfold State.fetchInstr
  dsimp only
  rw [hfirst]
  cases h with
  | op h =>
    rw [h, show (encode _).length = 1 from Nat.add_right_cancel hlen]
    rfl
  | byte h | cb h =>
    rw [h, show (encode _).length = 2 from Nat.add_right_cancel hlen]
    exact congrArg (fun pc => (_, b.setPc pc)) htwo.symm
  | word h =>
    rw [h, show (encode _).length = 3 from Nat.add_right_cancel hlen]
    exact congrArg (fun pc => (_, b.setPc pc)) hthree.symm

/-- A step that fetches has no fault recorded, and the fetch records none. -/
theorem State.FetchesInstr.safe_fetched {s : State} {i : Instr} (h : s.FetchesInstr i) : (s.fetched i).Safe := by
  obtain ⟨⟨hfault, _, _⟩, _⟩ := h
  obtain ⟨b, _, e⟩ := fetched_eq s i
  rw [e]
  exact hfault

/-- A step that fetches `i` executes it in the state `fetched` and runs lines 5 to 8 after it (60_exceptions.md R410). -/
theorem step_of_fetchesInstr {s t : State} {i : Instr} (h : s.FetchesInstr i) (he : exec i (s.fetched i) = .next t) :
    step s = .next t.endInstruction := by
  obtain ⟨⟨hfault, hstopped, hwaits⟩, rest, hdec⟩ := h
  obtain ⟨b, e, _⟩ := leaveBios_cases s
  have hbegun : s.leaveBios.waits = false := by rw [e]; exact hwaits
  have hpc : s.leaveBios.wake.regs.pc = s.regs.pc := by rw [e]; rfl
  rw [← hpc] at hdec
  have hfetch := fetchInstr_of_decodes (decode_eq_ok_iff.mp hdec)
  rw [hpc] at hfetch
  have he : exec i (s.leaveBios.wake.setPc (s.regs.pc + BitVec.ofNat 16 (encode i).length)).nextSnapshot = .next t := he
  simp [step, runInstruction, hfault, hstopped, hbegun, hfetch, he]

@[simp] theorem State.eiUpdate_cycles (s : State) : s.eiUpdate.ctl.cycles = s.ctl.cycles := by
  unfold State.eiUpdate; split <;> rfl

/-- Lines 5 to 8 where no fault is recorded. -/
theorem endInstruction_of_safe {s : State} (h : s.Safe) :
    s.endInstruction = s.eiUpdate.nextSnapshot.afterInstr s.ctl.cycles := by
  unfold State.endInstruction
  rw [if_neg (by rw [h]; decide), ← s.eiUpdate_cycles]
  rfl

/-- The step of a fetched instruction that records no fault. -/
theorem step_of_fetchesInstr_of_safe {s t : State} {i : Instr} (h : s.FetchesInstr i)
    (he : exec i (s.fetched i) = .next t) (hsafe : t.Safe) :
    step s = .next (t.eiUpdate.nextSnapshot.afterInstr t.ctl.cycles) := by
  rw [step_of_fetchesInstr h he, endInstruction_of_safe hsafe]

/-- With IME 0 the tail of a step is the advance alone: no field of the CPU and no byte of memory changes. -/
theorem afterInstr_of_ime_false {s : State} (h : s.ctl.ime = false) (c : Nat) :
    (s.afterInstr c).ctl = s.ctl ∧ (s.afterInstr c).regs = s.regs ∧ (s.afterInstr c).mem = s.mem := by
  obtain ⟨timer, ppu, iflag, calls, e⟩ := advance_frame s c
  unfold State.afterInstr State.serveInterrupt
  rw [e, if_neg (by simp [h])]
  exact ⟨rfl, rfl, rfl⟩

/-! ## The EI counter -/

/-- An instruction that is neither DI nor illegal keeps the enable that is due at its end, or, as RETI does, makes it take
effect at once. -/
theorem exec_of_eiDelay_one {i : Instr} {s t : State} (he : exec i s = .next t) (hei : s.ctl.eiDelay = 1)
    (hdi : i ≠ .di) (hwf : i.wellFormed = true) :
    t.ctl.fault = s.ctl.fault ∧ (t.ctl.eiDelay = 1 ∨ t.ctl.eiDelay = 0 ∧ t.ctl.ime = true) := by
  obtain ⟨_, _, _, _, hctl⟩ := exec_control he
  generalize t.ctl = c at hctl
  rcases hctl with ⟨n, _, rfl⟩ | heff
  · exact ⟨rfl, .inl hei⟩
  · cases heff with
    | halt | stop => exact ⟨rfl, .inl hei⟩
    | di h => exact absurd (by cases i <;> cases h; rfl) hdi
    | ei _ h0 => exact absurd (hei.symm.trans h0) (by decide)
    | reti => exact ⟨rfl, .inr ⟨rfl, rfl⟩⟩
    | illegal op h => exact absurd ((wellFormed_eq_false_of_shape h).symm.trans hwf) (by decide)

theorem eiUpdate_of_eiDelay_zero {s : State} (h : s.ctl.eiDelay = 0) : s.eiUpdate = s := by
  unfold State.eiUpdate; rw [h]

theorem eiUpdate_of_eiDelay_one {s : State} (h : s.ctl.eiDelay = 1) :
    s.eiUpdate = { s with ctl := { s.ctl with ime := true, eiDelay := 0 } } := by
  unfold State.eiUpdate; rw [h]

theorem eiUpdate_of_eiDelay_two {s : State} (h : s.ctl.eiDelay = 2) :
    s.eiUpdate = { s with ctl := { s.ctl with eiDelay := 1 } } := by
  unfold State.eiUpdate; rw [h]

/-- Line 5 enables interrupts where the enable is due, and changes nothing where RETI has made it take effect. -/
theorem eiUpdate_of_due {s : State} (h : s.ctl.eiDelay = 1 ∨ s.ctl.eiDelay = 0 ∧ s.ctl.ime = true) :
    s.eiUpdate = { s with ctl := { s.ctl with ime := true, eiDelay := 0 } } := by
  rcases h with h | ⟨h, hime⟩
  · exact eiUpdate_of_eiDelay_one h
  · rw [eiUpdate_of_eiDelay_zero h, ← h, ← hime]

/-- EI starts the delay where none runs (47_cpu_control.md R354). -/
theorem exec_ei_of_eiDelay_zero {s : State} (h : s.ctl.eiDelay = 0) :
    exec .ei s = .next { s with ctl := { s.ctl with eiDelay := 2, cycles := 4 } } := by
  obtain ⟨_, _, _, _, _, hexec⟩ := cpuControl
  rw [hexec, if_pos h]

/-- The step that executes EI where no delay runs: its own line 5 runs the counter down from 2 to 1. -/
theorem step_ei_of_eiDelay_zero {s : State} (hfetch : s.FetchesInstr .ei) (h : s.ctl.eiDelay = 0) :
    ∃ b, step s = .next (State.afterInstr
      { s with
        regs := { s.regs with pc := s.regs.pc + 1 }
        ctl := { s.ctl with inBios := b, halted := false, eiDelay := 1, cycles := 4 }
        hostDraw := s.hostDraw + 1 + 1 } 4) := by
  obtain ⟨b, _, e⟩ := fetched_eq s .ei
  have hexec := exec_ei_of_eiDelay_zero (s := s.fetched .ei) (by rw [e]; exact h)
  have hstep := step_of_fetchesInstr_of_safe hfetch hexec hfetch.safe_fetched
  rw [eiUpdate_of_eiDelay_two rfl, e] at hstep
  exact ⟨b, hstep⟩

/-! ## The delay over two steps -/

/-- Settles O11: the counter EI sets is run down once in EI's own step, with IME still 0 at the interrupt check, and once
more in the next instruction's. -/
theorem eiDelaysByOneInstruction : Obligations.EiDelaysByOneInstruction := by
  refine ⟨fun s hfetch hime hei => ?_, fun s i hfetch hei hdi hwf => ?_⟩
  · obtain ⟨b, hstep⟩ := step_ei_of_eiDelay_zero hfetch hei
    obtain ⟨⟨hfault, hstopped, _⟩, _⟩ := hfetch
    refine ⟨_, hstep, ?_⟩
    simp [afterInstr_of_ime_false, hime, hstopped, hfault]
  · obtain ⟨b, _, e⟩ := fetched_eq s i
    obtain ⟨t, he⟩ := exec_next i (s.fetched i)
    obtain ⟨hfault, hdue⟩ := exec_of_eiDelay_one he (by rw [e]; exact hei) hdi hwf
    have hsafe : t.Safe := hfault.trans hfetch.safe_fetched
    refine ⟨t, he, ?_⟩
    rw [step_of_fetchesInstr_of_safe hfetch he hsafe, eiUpdate_of_due hdue]
    rfl

end Sys2Proof.Machine
end

section
/-! PROOFS. The step by what the CPU's control state asks of it (60_exceptions.md R401, R410 to R415): a recorded fault, a
stopped step, a halted grant, an instruction. -/

namespace Sys2Proof.Machine

/-! ## Which step it is -/

/-- Line 1 of a step with a fault recorded (60_exceptions.md R401). -/
theorem step_of_fault {s : State} {r : IllegalOpcode} (h : s.ctl.fault = some r) :
    step s = .fault (.illegalOpcode r.op r.addr) := by
  simp [step, h]

/-- Line 1 of a step while Stopped (60_exceptions.md R413). -/
theorem step_of_stopped {s : State} (hsafe : s.Safe) (hs : s.ctl.stopped = true) : step s = .next (s.took 0) := by
  simp [step, hsafe, hs, State.heldStep]

@[simp] theorem State.leaveBios_waits (s : State) : s.leaveBios.waits = s.waits := by
  obtain ⟨b, e, _⟩ := leaveBios_cases s
  rw [e]
  rfl

/-- A halted grant is 4 cycles with lines 6 and 7 after it (60_exceptions.md R411). -/
theorem haltedStep_eq_afterInstr (s : State) : s.haltedStep = (s.took 4).afterInstr 4 := rfl

/-- Line 3 of a halted step with nothing pending. -/
theorem step_of_waits {s : State} (hsafe : s.Safe) (hs : s.ctl.stopped = false) (hw : s.waits = true) :
    step s = .next ((s.leaveBios.took 4).afterInstr 4) := by
  simp [step, hsafe, hs, hw, haltedStep_eq_afterInstr]

/-- Line 3 on for a CPU that fetches (60_exceptions.md R410, R412). -/
theorem step_of_fetches {s : State} (h : s.Fetches) : step s = runInstruction s.leaveBios.wake := by
  obtain ⟨hsafe, hs, hw⟩ := h
  simp [step, hsafe, hs, hw]

/-- Any bytes decode, so a CPU that fetches fetches some instruction. -/
theorem State.Fetches.exists_instr {s : State} (h : s.Fetches) : ∃ i, s.FetchesInstr i := by
  obtain ⟨i, rest, hdec⟩ := exists_decodes (s.leaveBios.wake.codeByte s.regs.pc)
    (s.leaveBios.wake.codeByte (s.regs.pc + 1)) (s.leaveBios.wake.codeByte (s.regs.pc + 2))
  exact ⟨i, h, rest, decode_eq_ok_iff.mpr hdec⟩

/-- A CPU that fetches answers a next state, an illegal opcode included (log 9). -/
theorem State.Fetches.exists_next {s : State} (h : s.Fetches) : ∃ t, step s = .next t := by
  obtain ⟨i, hfetch⟩ := h.exists_instr
  obtain ⟨t, he⟩ := exec_next i (s.fetched i)
  exact ⟨_, step_of_fetchesInstr hfetch he⟩

/-! ## A recorded fault -/

/-- A recorded fault ends the step at once (60_exceptions.md R401). -/
theorem endInstruction_of_fault {s : State} (h : s.ctl.fault ≠ none) : s.endInstruction = s := by
  rw [State.endInstruction, if_pos (Option.isSome_iff_ne_none.mpr h)]

/-- Settles O5: any instruction answers a next state, and lines 5 to 8 follow unless a fault is recorded in it. -/
theorem stepRunsDecodedInstruction : Obligations.StepRunsDecodedInstruction := by
  intro s i hfetch
  obtain ⟨t, he⟩ := exec_next i (s.fetched i)
  refine ⟨t, he, step_of_fetchesInstr_of_safe hfetch he, fun hfault => ?_⟩
  rw [step_of_fetchesInstr hfetch he, endInstruction_of_fault hfault]

/-- Settles O6: each of the three kinds of step without a fault (stopped, a halted grant, an instruction) answers a next
state. -/
theorem onlyARecordedFaultEndsTheRun : Obligations.OnlyARecordedFaultEndsTheRun := by
  refine ⟨fun s r h => step_of_fault h, fun s hsafe => ?_⟩
  cases hs : s.ctl.stopped with
  | true => exact ⟨_, step_of_stopped hsafe hs⟩
  | false =>
    cases hw : s.waits with
    | true => exact ⟨_, step_of_waits hsafe hs hw⟩
    | false => exact State.Fetches.exists_next ⟨hsafe, hs, hw⟩

/-- The step that fetches an illegal opcode: PC past it, the opcode and its address recorded (47_cpu_control.md R355). -/
theorem step_of_illegal {s : State} {i : Instr} {op : Byte} (h : i.shape = .illegal op) (hfetch : s.FetchesInstr i) :
    step s = .next
      { s.leaveBios with
        regs := { s.regs with pc := s.regs.pc + 1 }
        ctl := { s.leaveBios.ctl with halted := false, fault := some { op := op, addr := s.regs.pc }, cycles := 0 }
        hostDraw := s.hostDraw + 1 } := by
  obtain ⟨hencode, _, hexec⟩ := illegalOpcodeIsRecorded i op h
  rw [step_of_fetchesInstr hfetch (hexec _), endInstruction_of_fault (Option.some_ne_none _), State.fetched, hencode]
  obtain ⟨b, e, _⟩ := leaveBios_cases s
  rw [e]
  simp [State.wake, State.setPc, State.setRegs, State.nextSnapshot]

/-- Settles O7: the recorded fault ends the recording step at once, and is what the next step answers. -/
theorem illegalOpcodeStopsTheMachine : Obligations.IllegalOpcodeStopsTheMachine :=
  fun _ _ _ h hfetch => ⟨_, step_of_illegal h hfetch, rfl, step_of_fault (r := { op := _, addr := _ }) rfl⟩

/-! ## Stopped and Halted -/

theorem hostResume_stopped (s : State) : s.hostResume.ctl.stopped = false := by
  unfold State.hostResume
  split
  · rfl
  · simpa using ‹¬ s.ctl.stopped = true›

/-- Without a fault recorded, what a step returned is its count (60_exceptions.md R410, R415). -/
theorem returned?_of_safe {s : State} (h : s.Safe) : s.returned? = .cycles s.ctl.cycles := by
  rw [State.returned?, h]

/-- Settles O8: a stopped step is `took 0`, which a second one repeats. -/
theorem stoppedStepDoesNothing : Obligations.StoppedStepDoesNothing := by
  intro s hsafe hs
  exact ⟨s.took 0, step_of_stopped hsafe hs, rfl, returned?_of_safe hsafe, step_of_stopped (s := s.took 0) hsafe hs,
    hostResume_stopped _, rfl⟩

theorem waits_iff (s : State) : s.waits = true ↔ s.ctl.halted = true ∧ s.irq.ie &&& s.irq.iflag = 0 := by
  rw [State.waits, Bool.and_eq_true, decide_eq_true_iff, State.pending]

/-- The wake hides whether the CPU was halted before it. -/
theorem leaveBios_wake_of_halted (s : State) (h : Bool) :
    State.wake (State.leaveBios { s with ctl := { s.ctl with halted := h } }) = s.leaveBios.wake := by
  unfold State.leaveBios
  dsimp only
  split <;> rfl

/-- Settles O10: with a request pending both machines fetch, and they are the same behind the wake. -/
theorem pendingRequestWakesHaltedCpu : Obligations.PendingRequestWakesHaltedCpu := by
  intro s hsafe hs _ hpending
  have hfetch : s.Fetches := ⟨hsafe, hs, Bool.eq_false_iff.mpr fun hw => hpending ((waits_iff s).mp hw).2⟩
  have hfetch' : State.Fetches { s with ctl := { s.ctl with halted := false } } := ⟨hsafe, hs, rfl⟩
  refine ⟨?_, hfetch.exists_next⟩
  rw [step_of_fetches hfetch, step_of_fetches hfetch', leaveBios_wake_of_halted s false]

/-! ## The returned count -/

/-- An instruction that records no fault takes a multiple of 4 cycles from 4 to 24. -/
theorem exec_cycles {i : Instr} {s t : State} (he : exec i s = .next t) (hsafe : t.Safe) : instrCycles t.ctl.cycles := by
  obtain ⟨_, _, _, _, hctl⟩ := exec_control he
  unfold State.Safe at hsafe
  generalize t.ctl = c at hctl hsafe
  rcases hctl with ⟨n, hn, rfl⟩ | heff
  · exact hn
  · cases heff with
    | illegal => cases hsafe
    | _ => simp [instrCycles]

/-- The tail of a step adds the 20 cycles of an interrupt entry or none (60_exceptions.md R415). -/
theorem finishStep_cycles {s : State} (h : instrCycles s.ctl.cycles) :
    s.finishStep.ctl.cycles % 4 = 0 ∧ 4 ≤ s.finishStep.ctl.cycles ∧ s.finishStep.ctl.cycles ≤ 44 := by
  obtain ⟨hmod, hge, hle⟩ := h
  obtain ⟨_, e | ⟨_, e⟩⟩ := finishStep_cases s
  all_goals
    simp only [e]
    omega

/-- What ends without a fault recorded was followed by lines 5 to 8. -/
theorem safe_of_endInstruction {s : State} (h : s.endInstruction.Safe) : s.Safe := by
  by_contra hfault
  rw [endInstruction_of_fault hfault] at h
  exact hfault h

/-- Settles O15: a grant is 4 cycles and an instruction at most 24, before the 20 of an interrupt entry. -/
theorem stepReturnsItsCycles : Obligations.StepReturnsItsCycles := by
  intro s t hstep hsafe
  obtain ⟨_, ⟨hs, rfl⟩ | ⟨hs, _, rfl⟩ | ⟨hs, _, i, pc, u, _, he, rfl⟩⟩ := step_cases hstep
  · exact ⟨fun _ => rfl, fun h => absurd (hs.symm.trans h) (by decide)⟩
  · exact ⟨fun h => absurd (hs.symm.trans h) (by decide), fun _ => finishStep_cycles (by simp [instrCycles])⟩
  · refine ⟨fun h => absurd (hs.symm.trans h) (by decide), fun _ => ?_⟩
    have hu := safe_of_endInstruction hsafe
    rw [State.endInstruction, if_neg (by simp [hu])]
    exact finishStep_cycles (by simpa using exec_cycles he hu)

end Sys2Proof.Machine
end

section
/-! PROOFS. The interrupt check and the entry it makes (60_exceptions.md R421 to R423), and the halted grant that ends in it
(R411). -/

namespace Sys2Proof.Machine

/-! ## The check -/

/-- With IME 0, or with nothing both requested and enabled, the check is idle (60_exceptions.md R421). -/
theorem serveInterrupt_idle {s : State} (h : s.ctl.ime = false ∨ s.irq.ie &&& s.irq.iflag = 0) : s.serveInterrupt = s := by
  rcases h with hime | hpending
  · rw [State.serveInterrupt, if_neg (by simp [hime])]
  · rw [State.serveInterrupt, (highestPriority_eq_none s.pending).mpr hpending]
    exact ite_self s

/-- With IME 1 the lowest-numbered enabled request is taken, and its 20 cycles are charged and fed to the timer and the PPU
(60_exceptions.md R422, R423). -/
theorem serveInterrupt_of_servedNext {s : State} {i : Source} (hime : s.ctl.ime = true) (h : ServedNext s i) :
    s.serveInterrupt = ((s.takeInterrupt i).took (s.ctl.cycles + 20)).advance 20 := by
  rw [State.serveInterrupt, if_pos hime, highestPriority_of_servedNext h]
  rfl

/-- Settles O14: the check is idle without an enabled request, and an enabled request has one lowest-numbered source. -/
theorem interruptCheckServesOnlyEnabledRequests : Obligations.InterruptCheckServesOnlyEnabledRequests := by
  refine fun s => ⟨serveInterrupt_idle, fun hpending => ?_⟩
  obtain ⟨i, hi⟩ := Option.ne_none_iff_exists'.mp (mt (highestPriority_eq_none s.pending).mp hpending)
  exact ⟨i, servedNext_of_highestPriority hi, fun j hj => servedNext_unique hj (servedNext_of_highestPriority hi)⟩

/-! ## The entry -/

/-- The state with interrupt `i` acknowledged: IME and the source's IF bit cleared, nothing pushed yet. -/
def State.acknowledged (s : State) (i : Source) : State :=
  { s with ctl := { s.ctl with ime := false }, irq := { s.irq with iflag := s.irq.iflag &&& ~~~i.mask } }

/-- Taking an interrupt is a push in the acknowledged state, the vector, and Halted cleared. -/
theorem takeInterrupt_eq_acknowledged (s : State) (i : Source) :
    s.takeInterrupt i = (((s.acknowledged i).push16 s.regs.pc).setPc i.vector).wake := rfl

/-- Settles O13: the entry pushes PC in the acknowledged state. -/
theorem interruptEntry : Obligations.InterruptEntry := by
  intro s i hime hserved
  refine ⟨s.acknowledged i, _, rfl, pushes_push16 (s.acknowledged i) s.regs.pc i.vector s.ctl.cycles, ?_⟩
  rw [serveInterrupt_of_servedNext hime hserved, takeInterrupt_eq_acknowledged]
  rfl

/-! ## The halted grant -/

/-- Line 6 of a step changes nothing of the CPU, no byte of memory and no number of a draw. -/
theorem advance_keeps_cpu (s : State) (c : Nat) :
    ((s.advanceTimer c).advancePpu c).ctl = s.ctl ∧ ((s.advanceTimer c).advancePpu c).regs = s.regs ∧
      ((s.advanceTimer c).advancePpu c).mem = s.mem ∧ ((s.advanceTimer c).advancePpu c).hostDraw = s.hostDraw := by
  obtain ⟨timer, ppu, iflag, calls, e⟩ := advance_frame s c
  rw [e]
  exact ⟨rfl, rfl, rfl, rfl⟩

theorem State.leaveBios_keeps (s : State) :
    s.leaveBios.regs = s.regs ∧ s.leaveBios.mem = s.mem ∧ s.leaveBios.hostDraw = s.hostDraw ∧
      s.leaveBios.ctl = { s.ctl with inBios := s.leaveBios.ctl.inBios } := by
  obtain ⟨b, e, _⟩ := leaveBios_cases s
  rw [e]
  exact ⟨rfl, rfl, rfl, rfl⟩

/-- What an entry with its 20 cycles leaves of the CPU. -/
theorem entry_keeps_cpu (s : State) (i : Source) (n c : Nat) :
    (((s.takeInterrupt i).took n).advance c).ctl = { s.ctl with ime := false, halted := false, cycles := n } ∧
      (((s.takeInterrupt i).took n).advance c).regs.pc = i.vector := by
  obtain ⟨hctl, hregs, _⟩ := advance_keeps_cpu ((s.takeInterrupt i).took n) c
  unfold State.advance
  rw [hctl, hregs, takeInterrupt_eq]
  exact ⟨rfl, rfl⟩

/-- Settles O9: the step is the check after the grant of 4 cycles, and the check is idle or makes an entry. -/
theorem haltedStepGrantsFourCycles : Obligations.HaltedStepGrantsFourCycles := by
  intro s hsafe hs hhalted hpending
  refine ⟨_, step_of_waits hsafe hs ((waits_iff s).mpr ⟨hhalted, hpending⟩), ?_⟩
  unfold State.afterInstr
  obtain ⟨hctl, hregs, hmem, hdraw⟩ := advance_keeps_cpu (s.leaveBios.took 4) 4
  obtain ⟨hbregs, hbmem, hbdraw, hbctl⟩ := s.leaveBios_keeps
  rw [State.took_ctl, hbctl] at hctl
  dsimp only
  generalize ((s.leaveBios.took 4).advanceTimer 4).advancePpu 4 = u at hctl hregs hmem hdraw
  refine ⟨by rw [hctl]; exact hhalted, hregs.trans hbregs, hmem.trans hbmem, hdraw.trans hbdraw, fun hidle => ?_,
    fun hime i hserved => ?_⟩
  · rw [serveInterrupt_idle (hidle.imp_left fun h => by rw [hctl]; exact h)]
    exact ⟨rfl, by rw [returned?_of_safe (by rw [State.Safe, hctl]; exact hsafe), hctl]⟩
  · rw [serveInterrupt_of_servedNext (by rw [hctl]; exact hime) hserved, hctl]
    obtain ⟨ectl, epc⟩ := entry_keeps_cpu u i 24 20
    rw [hctl] at ectl
    exact ⟨rfl, by rw [ectl], epc, by rw [returned?_of_safe (by rw [State.Safe, ectl]; exact hsafe), ectl]⟩

end Sys2Proof.Machine
end

section
/-! PROOFS. The timer's counts (60_exceptions.md R440 to R442). -/

namespace Sys2Proof.Machine

/-- The period is the table of TAC bits 1..0 (10_state.md R34). -/
theorem Timer.period_eq (t : Timer) : ([1024, 16, 64, 256] : List Nat)[t.tac.toNat % 4]? = some t.period := by
  have hlow : (t.tac.setWidth 2).toNat = t.tac.toNat % 4 := BitVec.toNat_setWidth 2 t.tac
  have hlt : t.tac.toNat % 4 < 4 := Nat.mod_lt _ (by decide)
  unfold Timer.period
  rw [hlow]
  generalize t.tac.toNat % 4 = k at hlt
  interval_cases k <;> rfl

/-! ## One advance -/

/-- A tick at 0xFF reloads TMA and requests the timer interrupt (R442). -/
theorem tickTima_overflow {s : State} (h : s.timer.tima = 0xFF) :
    s.tickTima.timer.tima = s.timer.tma ∧ s.tickTima.irq.iflag = s.irq.iflag ||| 0b00100 := by
  rw [State.tickTima, if_pos h]
  exact ⟨rfl, rfl⟩

theorem tickTima_increment {s : State} (h : s.timer.tima ≠ 0xFF) :
    s.tickTima.timer.tima = s.timer.tima + 1 ∧ s.tickTima.irq.iflag = s.irq.iflag := by
  rw [State.tickTima, if_neg h]
  exact ⟨rfl, rfl⟩

/-- Ticks write TIMA and IF alone. -/
theorem tickTimes_eq (n : Nat) (s : State) : State.tickTimes n s =
    { s with
      timer := { s.timer with tima := (State.tickTimes n s).timer.tima }
      irq := { s.irq with iflag := (State.tickTimes n s).irq.iflag } } := by
  obtain ⟨tima, iflag, e⟩ := tickTimes_frame n s
  rw [e]

/-- While TAC bit 2 is 0 an advance is DIV's alone (R440). -/
theorem advanceTimer_disabled {s : State} (h : s.timer.enabled = false) (c : Nat) :
    s.advanceTimer c = { s with timer := s.timer.advanceDiv c } := by
  rw [advanceTimer_eq, if_neg (by simp [h])]

/-- While TAC bit 2 is 1 an advance is DIV's and a tick for each period accumulated (R442). -/
theorem advanceTimer_enabled {s : State} (h : s.timer.enabled = true) (c : Nat) : s.advanceTimer c =
    { State.tickTimes ((s.timer.timaAcc + c) / s.timer.period) s with
      timer := { (State.tickTimes ((s.timer.timaAcc + c) / s.timer.period) s).timer with
                 div := s.timer.div + BitVec.ofNat 8 ((s.timer.divAcc + c) / 256)
                 divAcc := (s.timer.divAcc + c) % 256
                 timaAcc := (s.timer.timaAcc + c) % s.timer.period } } := by
  rw [advanceTimer_eq, if_pos h]

/-- Settles O46: an advance makes the ticks of the periods accumulated, here none or one. -/
theorem timerCounts : Obligations.TimerCounts := by
  intro s c
  cases henabled : s.timer.enabled with
  | false =>
    exact ⟨s.timer.tima, s.timer.timaAcc, s.irq.iflag, advanceTimer_disabled henabled c, fun _ => ⟨rfl, rfl, rfl⟩,
      fun h => absurd (henabled.symm.trans h) (by decide)⟩
  | true =>
    refine ⟨_, _, _, (advanceTimer_enabled henabled c).trans (by rw [tickTimes_eq]),
      fun h => absurd (henabled.symm.trans h) (by decide), fun _ n hn => ?_⟩
    rw [s.timer.period_eq, Option.some.injEq] at hn
    rw [hn]
    refine ⟨fun hlt => ?_, fun hge hlt => ?_⟩
    · rw [Nat.div_eq_of_lt hlt]
      exact ⟨rfl, Nat.mod_eq_of_lt hlt, rfl⟩
    · have hone : (s.timer.timaAcc + c) / n = 1 := Nat.div_eq_of_lt_le (by omega) (by omega)
      rw [hone]
      exact ⟨by rw [Nat.mod_eq_sub_mod hge, Nat.mod_eq_of_lt (by omega)], tickTima_overflow, tickTima_increment⟩

/-! ## Two advances -/

/-- Counting periods loses nothing: the remainder of the first count goes into the second. -/
theorem div_add_mod_add_div (a c d : Nat) {n : Nat} (h : 0 < n) :
    (a + c) / n + ((a + c) % n + d) / n = (a + (c + d)) / n := by
  rw [← Nat.add_assoc]
  conv_rhs => rw [← Nat.div_add_mod (a + c) n, Nat.add_assoc, Nat.mul_add_div h]

/-- DIV counts the whole blocks of two advances as those of one (R441). -/
theorem divCount_add (v : Byte) (a c d : Nat) :
    v + BitVec.ofNat 8 ((a + c) / 256) + BitVec.ofNat 8 (((a + c) % 256 + d) / 256) =
      v + BitVec.ofNat 8 ((a + (c + d)) / 256) := by
  rw [← div_add_mod_add_div a c d (n := 256) (by decide), BitVec.ofNat_add, BitVec.add_assoc]

/-- DIV's part of two advances is that of one by the sum. -/
theorem Timer.advanceDiv_add (t : Timer) (c d : Nat) : (t.advanceDiv c).advanceDiv d = t.advanceDiv (c + d) := by
  simp only [Timer.advanceDiv, divCount_add, Nat.mod_add_mod, Nat.add_assoc]

/-- An advance does not write TAC, so it keeps what TAC selects. -/
theorem advanceTimer_keeps_tac (s : State) (c : Nat) :
    (s.advanceTimer c).timer.enabled = s.timer.enabled ∧ (s.advanceTimer c).timer.period = s.timer.period := by
  rw [advanceTimer_eq, tickTimes_eq]
  split <;> exact ⟨rfl, rfl⟩

/-- Settles O47: the remainders of the first advance go into the second, and ticks made one after the other add up. -/
theorem timerAdvancesAddUp : Obligations.TimerAdvancesAddUp := by
  intro s c d
  obtain ⟨htac, hperiod⟩ := advanceTimer_keeps_tac s c
  cases henabled : s.timer.enabled with
  | false =>
    rw [advanceTimer_disabled (htac.trans henabled), advanceTimer_disabled henabled, advanceTimer_disabled henabled,
      ← Timer.advanceDiv_add]
  | true =>
    rw [advanceTimer_enabled (htac.trans henabled), hperiod, advanceTimer_enabled henabled c,
      advanceTimer_enabled henabled (c + d)]
    simp only [tickTimes_setAccumulators, tickTimes_add, div_add_mod_add_div _ _ _ s.timer.period_pos.1, divCount_add,
      Nat.mod_add_mod, Nat.add_assoc]

end Sys2Proof.Machine
end

section
/-! PROOFS. The PPU's mode machine (60_exceptions.md R450 to R460, R467). -/

namespace Sys2Proof.Machine

/-! ## The LCD off and on again -/

/-- Requesting nothing leaves IF as it is. -/
theorem or_noRequest (iflag : BitVec 5) : iflag ||| 0 = iflag := BitVec.or_zero

theorem lcdRestart_of_on {s : State} (h : s.ppu.lcdWasOff = false) : s.lcdRestart = s := by
  rw [State.lcdRestart, if_neg (by simp [h])]

/-- The first advance with the LCD on again enters readOAM at clock 0 (R452). -/
theorem lcdRestart_of_off {s : State} (h : s.ppu.lcdWasOff = true) : s.lcdRestart =
    { s with
      ppu := { s.ppu with lcdWasOff := false, mode := .readOAM, modeClock := 0 }
      irq := { s.irq with
               iflag := if s.ppu.statEnable.getLsbD 2 then s.irq.iflag ||| 0b00010 else s.irq.iflag } } := by
  rw [State.lcdRestart, if_pos h, enterMode_eq]
  have hbit : Ppu.entryEnabled { s.ppu with lcdWasOff := false, modeClock := 0 } .readOAM = s.ppu.statEnable.getLsbD 2 := rfl
  dsimp only
  rw [hbit, apply_ite (s.irq.iflag ||| ·), or_noRequest]

/-- With the LCD on, an advance sees the restarted state only. -/
theorem advancePpu_lcdRestart {s : State} (h : s.ppu.lcdc.getLsbD 7 = true) (c : Nat) :
    s.advancePpu c = s.lcdRestart.advancePpu c := by
  cases hw : s.ppu.lcdWasOff with
  | false => rw [lcdRestart_of_on hw]
  | true =>
    have hon : s.lcdRestart.ppu.lcdc.getLsbD 7 = true := by rw [lcdRestart_of_off hw]; exact h
    have hdone : s.lcdRestart.lcdRestart = s.lcdRestart := lcdRestart_of_on (by rw [lcdRestart_of_off hw])
    rw [State.advancePpu, State.advancePpu, if_pos h, if_pos hon, hdone]

/-- Settles O48: with the LCD off an advance is `lcdOff`; on again, it is an advance of the restarted machine. -/
theorem lcdOffAndOn : Obligations.LcdOffAndOn := by
  refine fun s c => ⟨fun hoff => ?_, fun hon hwas => ?_⟩
  · rw [State.advancePpu, if_neg (by rw [hoff]; decide)]
    rfl
  · rw [advancePpu_lcdRestart hon, lcdRestart_of_off hwas]

/-! ## One transition -/

/-- The request of entering a mode, as a mask of IF (R459). -/
def Ppu.entryRequest (p : Ppu) (m : PpuMode) : BitVec 5 := if p.entryEnabled m then 0b00010 else 0

/-- The state in which a transition has left mode, line, clock, sink and IF, before LY is compared with LYC. -/
def State.moved (s : State) (mode : PpuMode) (ly : Byte) (clock : Nat) (calls : List SinkCall) (requests : BitVec 5) :
    State :=
  { s with
    ppu := { s.ppu with mode := mode, ly := ly, modeClock := clock }
    sink := s.sink ++ calls
    irq := { s.irq with iflag := s.irq.iflag ||| requests } }

/-- `coincidenceCheck` after a move is what `PpuMoves` says of it. -/
theorem ppuMoves_coincidenceCheck (s : State) (mode : PpuMode) (ly : Byte) (clock : Nat) (calls : List SinkCall)
    (requests : BitVec 5) :
    PpuMoves s (s.moved mode ly clock calls requests).coincidenceCheck mode ly clock calls requests := by
  rw [PpuMoves, coincidenceCheck_eq]
  rfl

/-- An advance that reaches no threshold (R450). -/
theorem ppuMoves_of_lt {s : State} {c : Nat} (hon : s.ppu.lcdc.getLsbD 7 = true) (hwas : s.ppu.lcdWasOff = false)
    (h : s.ppu.modeClock + c < s.ppu.mode.threshold) :
    PpuMoves s (s.advancePpu c) s.ppu.mode s.ppu.ly (s.ppu.modeClock + c) [] 0 := by
  have hmoved : s.setModeClock (s.ppu.modeClock + c) = s.moved s.ppu.mode s.ppu.ly (s.ppu.modeClock + c) [] 0 := by
    rw [State.moved, List.append_nil, or_noRequest]
    rfl
  rw [State.advancePpu, if_pos hon, lcdRestart_of_on hwas]
  dsimp only
  rw [modeLoop_of_lt _ h, hmoved]
  exact ppuMoves_coincidenceCheck ..

/-- An advance that makes one transition, given what that transition leads to. -/
theorem ppuMoves_of_transition {s : State} {c : Nat} (old : PpuMode) {mode : PpuMode} {ly : Byte} {calls : List SinkCall}
    {requests : BitVec 5} (hon : s.ppu.lcdc.getLsbD 7 = true) (hwas : s.ppu.lcdWasOff = false)
    (hm : s.ppu.mode = old) (hge : old.threshold ≤ s.ppu.modeClock + c)
    (hlt : s.ppu.modeClock + c < old.threshold + mode.threshold)
    (htrans : ∀ clock, (s.setModeClock clock).transition = s.moved mode ly clock calls requests) :
    PpuMoves s (s.advancePpu c) mode ly (s.ppu.modeClock + c - old.threshold) calls requests := by
  subst hm
  rw [advancePpu_one hon hwas rfl hge (htrans _)
    (show s.ppu.modeClock + c - s.ppu.mode.threshold < mode.threshold by omega)]
  exact ppuMoves_coincidenceCheck ..

section
variable {s : State} (clock : Nat)

/-- R454. -/
theorem transition_readOAM (h : s.ppu.mode = .readOAM) :
    (s.setModeClock clock).transition = s.moved .readVRAM s.ppu.ly clock [] 0 := by
  simp only [State.transition, State.setModeClock_ppu, h, enterMode_eq, State.moved, List.append_nil]
  rfl

/-- R455: a visible line is rendered from the state before the transition. -/
theorem transition_readVRAM (h : s.ppu.mode = .readVRAM) (hly : s.ppu.ly.toNat < 144) :
    (s.setModeClock clock).transition = s.moved .hBlank s.ppu.ly clock
      ((List.range 160).map fun col => .setPixel col s.ppu.ly.toNat (s.pixelShade s.ppu.ly.toNat col))
      (s.ppu.entryRequest .hBlank) := by
  have hrender : (s.setModeClock clock).renderLine = (s.setModeClock clock).emit
      ((List.range 160).map fun col => .setPixel col s.ppu.ly.toNat (s.pixelShade s.ppu.ly.toNat col)) :=
    if_pos hly
  simp only [State.transition, State.setModeClock_ppu, h, hrender, enterMode_eq]
  rfl

/-- R456 within the visible lines. -/
theorem transition_hBlank (h : s.ppu.mode = .hBlank) (hly : s.ppu.ly ≠ 143) :
    (s.setModeClock clock).transition = s.moved .readOAM (s.ppu.ly + 1) clock [] (s.ppu.entryRequest .readOAM) := by
  have hnext : ¬ s.ppu.ly + 1 = 144 := by bv_omega
  simp only [State.transition, State.setModeClock_ppu, h, State.setLy_ppu, if_neg hnext, enterMode_eq, State.moved,
    List.append_nil]
  rfl

/-- R456 at the last visible line, with R467's `draw`. -/
theorem transition_hBlank_last (h : s.ppu.mode = .hBlank) (hly : s.ppu.ly = 143) :
    (s.setModeClock clock).transition =
      s.moved .vBlank 144 clock [.draw] (0b00001 ||| s.ppu.entryRequest .vBlank) := by
  have hnext : s.ppu.ly + 1 = 144 := by rw [hly]; rfl
  simp only [State.transition, State.setModeClock_ppu, h, State.setLy_ppu, if_pos hnext, enterMode_eq, State.moved,
    ← BitVec.or_assoc]
  rw [← hnext]
  rfl

/-- R457 within vBlank. -/
theorem transition_vBlank (h : s.ppu.mode = .vBlank) (hly : s.ppu.ly.toNat < 153) :
    (s.setModeClock clock).transition = s.moved .vBlank (s.ppu.ly + 1) clock [] 0 := by
  have hnext : ¬ (s.ppu.ly + 1).toNat > 153 := by bv_omega
  simp only [State.transition, State.setModeClock_ppu, h, State.setLy_ppu, if_neg hnext, State.moved, List.append_nil,
    or_noRequest]
  rw [← h]
  rfl

/-- R457 at the last line. -/
theorem transition_vBlank_last (h : s.ppu.mode = .vBlank) (hly : s.ppu.ly = 153) :
    (s.setModeClock clock).transition = s.moved .readOAM 0 clock [] (s.ppu.entryRequest .readOAM) := by
  have hnext : (s.ppu.ly + 1).toNat > 153 := by rw [hly]; decide
  simp only [State.transition, State.setModeClock_ppu, h, State.setLy_ppu, if_pos hnext, enterMode_eq, State.moved,
    List.append_nil]
  rfl

end

/-- Settles O49: an advance past one threshold makes that mode's transition. The statement bounds the clock of a
move into vBlank by 80 cycles, where the mode lasts 456. -/
theorem ppuModeTransitions : Obligations.PpuModeTransitions := by
  intro s c hon hwas
  have hshort : ∀ {m n : Nat}, m < n + 80 → m < n + PpuMode.vBlank.threshold :=
    fun h => h.trans_le (Nat.add_le_add_left PpuMode.vBlank.le_threshold _)
  exact ⟨ppuMoves_of_lt hon hwas,
    fun hm hge hlt => ppuMoves_of_transition .readOAM hon hwas hm hge hlt (transition_readOAM · hm),
    fun hm hly hge hlt => ppuMoves_of_transition .readVRAM hon hwas hm hge hlt (transition_readVRAM · hm hly),
    fun hm hly hge hlt => ppuMoves_of_transition .hBlank hon hwas hm hge hlt (transition_hBlank · hm hly),
    fun hm hly hge hlt => ppuMoves_of_transition .hBlank hon hwas hm hge (hshort hlt) (transition_hBlank_last · hm hly),
    fun hm hly hge hlt => ppuMoves_of_transition .vBlank hon hwas hm hge (hshort hlt) (transition_vBlank · hm hly),
    fun hm hly hge hlt => ppuMoves_of_transition .vBlank hon hwas hm hge hlt (transition_vBlank_last · hm hly)⟩

end Sys2Proof.Machine
end

section
/-! PROOFS. The shade of a pixel (60_exceptions.md R461 to R464): the renderer's reads of VRAM are those of the bus, because
its addresses stay in VRAM. -/

namespace Sys2Proof.Machine

/-- An address of VRAM reads on the bus what the renderer reads (R461). -/
theorem vram_eq_memRead (s : State) {addr : Nat} (h : 0x8000 ≤ addr) (h' : addr < 0xA000) :
    s.vram addr = s.memRead (BitVec.ofNat 16 addr) := by
  have hnat : (BitVec.ofNat 16 addr).toNat = addr := Nat.mod_eq_of_lt (by omega)
  rw [State.memRead, s.locate_storage (by rw [hnat]; exact .inl ⟨h, h'⟩), hnat, echoHome, if_neg (by omega)]
  rfl

/-! ## The addresses -/

/-- A tile map lies in VRAM (R462). -/
theorem mapEntry_range (p : Ppu) (window : Bool) {x y : Nat} (hx : x < 256) (hy : y < 256) :
    0x8000 ≤ p.mapBase window + y / 8 * 32 + x / 8 ∧ p.mapBase window + y / 8 * 32 + x / 8 < 0xA000 := by
  have hbase : p.mapBase window = 0x9C00 ∨ p.mapBase window = 0x9800 := ite_eq_or_eq ..
  omega

/-- A tile's data lies in VRAM, with signed IDs too (R463). -/
theorem tileAddr_range (p : Ppu) (tileId : Byte) : 0x8000 ≤ p.tileAddr tileId ∧ p.tileAddr tileId + 16 ≤ 0x9800 := by
  have hlt := tileId.isLt
  have hlow := BitVec.le_two_mul_toInt (x := tileId)
  have hhigh := BitVec.two_mul_toInt_lt (x := tileId)
  unfold Ppu.tileAddr
  split <;> omega

theorem mapX_lt (p : Ppu) (window : Bool) {col : Nat} (h : col < 160) : p.mapX window col < 256 := by
  unfold Ppu.mapX
  split <;> omega

theorem mapY_lt (p : Ppu) (window : Bool) {ly : Nat} (h : ly < 144) : p.mapY window ly < 256 := by
  unfold Ppu.mapY
  split <;> omega

/-! ## The formulas of the rules -/

/-- The window test as the rule writes it, `col >= WX - 7` (R462). -/
theorem inWindow_eq (p : Ppu) (ly col : Nat) : p.inWindow ly col =
    (p.lcdc.getLsbD 5 && decide (p.wy.toNat ≤ ly) && decide ((p.wx.toNat : Int) - 7 ≤ col)) := by
  have h : p.wx.toNat ≤ col + 7 ↔ (p.wx.toNat : Int) - 7 ≤ col := by omega
  simp only [Ppu.inWindow, h]

/-- The window's column as the rule writes it, `col - (WX - 7)` (R462). -/
theorem mapX_eq (p : Ppu) (window : Bool) (col : Nat) : p.mapX window col =
    if window then ((col : Int) - (p.wx.toNat - 7)).toNat else (col + p.scx.toNat) % 256 := by
  have h : col + 7 - p.wx.toNat = ((col : Int) - (p.wx.toNat - 7)).toNat := by omega
  rw [Ppu.mapX, h]

/-- The colour index, read on the bus (R463). -/
theorem colourIndex_eq_memRead (s : State) (window : Bool) {x y : Nat} (hx : x < 256) (hy : y < 256) :
    s.colourIndex (s.ppu.mapBase window) x y =
      let vram (addr : Nat) : Byte := s.memRead (BitVec.ofNat 16 addr)
      let tile := s.ppu.tileAddr (vram (s.ppu.mapBase window + y / 8 * 32 + x / 8))
      2 * ((vram (tile + y % 8 * 2 + 1)).getLsbD (7 - x % 8)).toNat +
        ((vram (tile + y % 8 * 2)).getLsbD (7 - x % 8)).toNat := by
  obtain ⟨hmap, hmap'⟩ := mapEntry_range s.ppu window hx hy
  rw [State.colourIndex]
  dsimp only
  rw [vram_eq_memRead s hmap hmap']
  obtain ⟨htile, htile'⟩ :=
    tileAddr_range s.ppu (s.memRead (BitVec.ofNat 16 (s.ppu.mapBase window + y / 8 * 32 + x / 8)))
  rw [vram_eq_memRead s (by omega) (by omega), vram_eq_memRead s (by omega) (by omega)]

/-- The palette's two bits of a colour index (R464). -/
theorem shade_toNat (p : Ppu) (ci : Nat) : (p.shade ci).toNat = p.bgp.toNat / 2 ^ (2 * ci) % 4 := by
  rw [Ppu.shade, BitVec.toNat_setWidth, BitVec.toNat_ushiftRight, Nat.shiftRight_eq_div_pow]

/-- Settles O50: the model's shade is the rule's formulas over VRAM, and its addresses stay in VRAM. -/
theorem pixelShade : Obligations.PixelShade := by
  intro s ly col hly hcol
  dsimp only
  rw [← inWindow_eq, ← mapX_eq]
  refine ⟨fun hon => ?_, fun hoff => ?_, rfl⟩
  · rw [State.pixelShade, if_pos hon]
    dsimp only
    rw [shade_toNat, colourIndex_eq_memRead s _ (mapX_lt _ _ hcol) (mapY_lt _ _ hly)]
    rfl
  · rw [State.pixelShade, if_neg (by rw [hoff]; decide)]

end Sys2Proof.Machine
end

section
/-! PROOFS. What the host does between steps (60_exceptions.md R471, R472; 70_reset_and_hazards.md R500 to R503). -/

namespace Sys2Proof.Machine

/-! ## Loading -/

/-- A loaded image gives back the bytes it was loaded from (R503). -/
theorem Image.byte?_ofBytes (bytes : List Byte) (k : Nat) : (Image.ofBytes bytes).byte? k = bytes[k]? := by
  unfold Image.byte? Image.ofBytes
  split
  · rename_i h
    rw [Image.read_cellsFrom, if_pos k.zero_le, Nat.sub_zero, List.getElem?_eq_getElem h]
    rfl
  · rename_i h
    exact (List.getElem?_eq_none (Nat.le_of_not_lt h)).symm

theorem load_bios_byte? (rom : List Byte) (bios : Option (List Byte)) (k : Nat) :
    (State.load rom bios).cart.bios.bind (·.byte? k) = bios.bind (·[k]?) := by
  cases bios with
  | none => rfl
  | some bytes => exact Image.byte?_ofBytes bytes k

/-! ## The reset state -/

/-- A reset state's devices and control state meet the invariant of a run. -/
theorem resetWith_ok (cart : Cartridge) (ramDraw hostDraw : Nat) :
    (State.resetWith cart ramDraw hostDraw).DevicesOk ∧ (State.resetWith cart ramDraw hostDraw).ctl.Ok cart :=
  ⟨⟨rfl, nofun, Nat.zero_lt_succ _, Nat.zero_lt_succ _, rfl, rfl⟩, ⟨nofun, nofun, nofun, id, rfl, Nat.zero_le _⟩⟩

/-- After a reset every cell of RAM reads its free draw (10_state.md R41; log 2). -/
theorem resetWith_cell (cart : Cartridge) (ramDraw hostDraw : Nat) {key : Nat} (h : key < 0xFF00 ∨ 0xFF80 ≤ key) :
    (State.resetWith cart ramDraw hostDraw).cell key = Config.ramInit ramDraw key := by
  have hkey : unlistedCell key = none := if_neg (by omega)
  simp [State.cell, State.resetWith, Memory.read, Memory.lookup, hkey]

/-- What the host's reset reads in VRAM, work RAM, OAM and high RAM: the next draw. -/
theorem hostReset_memRead (s : State) {a : Word} (h : IsStorage a.toNat) (hram : a.toNat < 0xFF00 ∨ 0xFF80 ≤ a.toNat)
    (hhome : echoHome a.toNat = a.toNat) : s.hostReset.memRead a = Config.ramInit (s.ramDraw + 1) a.toNat := by
  rw [State.memRead, s.hostReset.locate_storage h, hhome]
  exact resetWith_cell s.cart (s.ramDraw + 1) s.hostDraw hram

/-! ## Pause, resume and reset -/

theorem hostPause_of_running {s : State} (h : s.ctl.stopped = false) :
    s.hostPause = { s with ctl := { s.ctl with stopped := true, halted := false, pausedHalted := s.ctl.halted } } := by
  rw [State.hostPause, if_neg (by rw [h]; decide)]

theorem hostPause_of_stopped {s : State} (h : s.ctl.stopped = true) : s.hostPause = s := by
  rw [State.hostPause, if_pos h]

theorem hostResume_of_running {s : State} (h : s.ctl.stopped = false) : s.hostResume = s := by
  rw [State.hostResume, if_neg (by rw [h]; decide)]

theorem hostResume_of_stopped {s : State} (h : s.ctl.stopped = true) : s.hostResume =
    { s with ctl := { s.ctl with stopped := false, halted := s.ctl.pausedHalted, pausedHalted := false } } := by
  rw [State.hostResume, if_pos h]

/-- A pause keeps the invariant: the CPU is Stopped and not Halted (10_state.md R27; log 8). -/
theorem hostPause_inv {s : State} (h : s.Inv) : s.hostPause.Inv := by
  cases hs : s.ctl.stopped with
  | true => rwa [hostPause_of_stopped hs]
  | false =>
    obtain ⟨hd, hc⟩ := (inv_iff s).mp h
    rw [hostPause_of_running hs, inv_iff]
    exact ⟨{ hd with }, { hc with halted_apart := nofun, paused_stopped := fun _ => rfl }⟩

/-- A resume keeps the invariant: the CPU is not Stopped, and no pause is recorded. -/
theorem hostResume_inv {s : State} (h : s.Inv) : s.hostResume.Inv := by
  cases hs : s.ctl.stopped with
  | false => rwa [hostResume_of_running hs]
  | true =>
    obtain ⟨hd, hc⟩ := (inv_iff s).mp h
    rw [hostResume_of_stopped hs, inv_iff]
    exact ⟨{ hd with }, { hc with halted_apart := fun _ => rfl, paused_stopped := nofun }⟩

/-- A reset keeps the invariant: of the state before it, the pixels already on the screen alone are left (log 5). -/
theorem hostReset_inv {s : State} (h : s.Inv) : s.hostReset.Inv := by
  obtain ⟨hd, _⟩ := (inv_iff s).mp h
  obtain ⟨hrd, hrc⟩ := resetWith_ok s.cart (s.ramDraw + 1) s.hostDraw
  exact (inv_iff _).mpr ⟨{ hrd with sink_onScreen := hd.sink_onScreen }, hrc⟩

/-- A resume of a CPU that was not halted when it was paused clears Stopped alone. -/
theorem hostResume_of_notPausedHalted {s : State} (hinv : s.Inv) (hs : s.ctl.stopped = true)
    (hp : s.ctl.pausedHalted = false) : s.hostResume = { s with ctl := { s.ctl with stopped := false } } := by
  obtain ⟨_, hc⟩ := (inv_iff s).mp hinv
  have hh : s.ctl.halted = false := Bool.eq_false_iff.mpr fun hh => absurd (hs.symm.trans (hc.halted_apart hh)) (by decide)
  rw [hostResume_of_stopped hs]
  simp [hp, hh]

/-- In a run no pause is recorded while the CPU is not stopped. -/
theorem pausedHalted_of_running {s : State} (hinv : s.Inv) (hs : s.ctl.stopped = false) : s.ctl.pausedHalted = false := by
  obtain ⟨_, hc⟩ := (inv_iff s).mp hinv
  exact Bool.eq_false_iff.mpr fun hp => absurd (hs.symm.trans (hc.paused_stopped hp)) (by decide)

/-- Settles O57: an image reads as its bytes; pause and resume write the run state alone, each half of the invariant kept;
and a reset is the reset state of the images in the machine, with the next draw. -/
theorem loadingAndHostActs : Obligations.LoadingAndHostActs := by
  refine ⟨fun rom bios k => ⟨Image.byte?_ofBytes rom k, load_bios_byte? rom bios k, rfl⟩, fun s => ?_⟩
  refine ⟨fun hs => ⟨hostResume_of_running hs, hostPause_of_running hs⟩,
    fun hs => ⟨hostPause_of_stopped hs, hostResume_of_stopped hs⟩, fun hinv => ?_,
    ⟨s.ramDraw + 1, s.hostDraw, rfl, Nat.succ_ne_self _⟩, rfl, rfl, fun a ha => ?_⟩
  · exact ⟨hostPause_inv hinv, hostResume_inv hinv, hostReset_inv hinv,
      fun hs => hostResume_hostPause hs (pausedHalted_of_running hinv hs), hostResume_of_notPausedHalted hinv⟩
  · exact hostReset_memRead s (by unfold IsStorage; omega) (by omega) (if_neg (by omega))

end Sys2Proof.Machine
end

/-! # A reset and the invariant of a run (70_reset_and_hazards.md) -/

section
namespace Sys2Proof.Machine

/-- The reset state of any images meets the invariant, whatever RAM and the host's snapshots hold (R500; 10_state.md R55). -/
theorem resetWith_inv (cart : Cartridge) (ramDraw hostDraw : Nat) : (State.resetWith cart ramDraw hostDraw).Inv :=
  (inv_iff _).mpr (resetWith_ok cart ramDraw hostDraw)

/-- Settles O58: the reset state is the reset state of no images, and that of any images meets both halves of the
invariant. -/
theorem invariantHoldsAtReset : Obligations.InvariantHoldsAtReset :=
  ⟨resetWith_inv Cartridge.empty 0 0, resetWith_inv⟩

end Sys2Proof.Machine
end
